-- ==== Sys2Proof/Word.lean ====
section
/-! DEFINITION. The machine words of the FT-248 and the three operations on a fixed bank of like things
(read one place, replace one place, build from a function). -/

namespace Sys2Proof

/-- One byte of a packet, a frame or a record of the record space. -/
abbrev Byte := BitVec 8

/-- A 40-bit byte address. -/
abbrev Address := BitVec 40

/-- The tag a master gives to a non-posted request, 0 to 63. -/
abbrev Tag := Fin 64

/-- The content of place `i`. -/
def look {α : Type} {n : Nat} (v : Vector α n) (i : Fin n) : α := v[i.val]

/-- The bank `v` with place `i` holding `x`. -/
def upd {α : Type} {n : Nat} (v : Vector α n) (i : Fin n) (x : α) : Vector α n := v.set i.val x

/-- The bank whose place `i` holds `f i`. -/
def tab {α : Type} {n : Nat} (f : Fin n → α) : Vector α n := Vector.ofFn f

end Sys2Proof
end

