-- ==== Sys2Proof/Config.lean ====
section
/-! DEFINITION. What the FT-248 fixes once for all, and the free values the spec leaves open. -/

namespace Sys2Proof.Config

/-- Places of a requester port's ingress queue, and so the credits a master is given at link UP (R136, R137). -/
abbrev ingressDepth : Nat := 8

/-- Places of a response queue (R136, R145). -/
abbrev responseDepth : Nat := 40

/-- Places of a target's egress queue (R48). -/
abbrev egressDepth : Nat := 8

/-- Frames a replay buffer holds (R152, R157). -/
abbrev replayDepth : Nat := 64

/-- Records an error bank holds (R78, R87). -/
abbrev bankDepth : Nat := 4

/-- The silence interval of a link that is UP, in µs (R161). -/
abbrev silenceMicros : Nat := 64

/-- The time allowed to a replay asked for by a NAK, in µs (R159). -/
abbrev replayMicros : Nat := 32

/-- The unit of a timeout class interval, in µs (R61). -/
abbrev classUnitMicros : Nat := 8

/-- The largest payload of a frame (R153). -/
abbrev maxPayload : Nat := 74

/-- Free value (log entry 5): the byte a CONFIG READ returns in a place for which section 10.3 states no content. -/
opaque freeByte : Nat → Byte

/-- Free value (log entry 6): whether the parity check of a damaged shadow window passes after one of its two
records has been written over. -/
opaque freeParity : Nat → Bool

end Sys2Proof.Config
end

