-- ==== Sys2Proof/Syntax.lean ====
section
/-! DEFINITION. The names of ports, links and banks, the packets that arrive, and the commands of the opcode table:
one constructor of `Instr` per row. -/

namespace Sys2Proof

/-- A requester port, RP0 to RP3. -/
abbrev RP := Fin 4

/-- A target port, TP0 to TP5. -/
abbrev TP := Fin 6

/-- One of the ten hub links: a requester port's or a target port's. -/
inductive LinkId where
  | rp (p : RP)
  | tp (t : TP)
  deriving DecidableEq, Repr

/-- One of the eleven error banks. -/
inductive Bank where
  | req (p : RP)
  | tgt (t : TP)
  | hub
  deriving DecidableEq, Repr

/-- The four packet frames of R153. -/
inductive PacketKind where
  | request
  | response
  | credit
  | alert
  deriving DecidableEq, Repr

/-- A REQUEST as it is delivered from a master, before any check of its form: the bytes of the packet by their place
in section 9.6, and the data the frame actually carries. -/
structure RawRequest where
  kind : Byte
  tag : Byte
  address : Address
  length : Byte
  data : List Byte
  deriving DecidableEq, Repr

/-- A RESPONSE as it is delivered from a target, before any check of its form (section 9.6). -/
structure RawResponse where
  index : Byte
  generation : Byte
  status : Byte
  credit : Byte
  data : List Byte
  deriving DecidableEq, Repr

/-- The commands of the block: one constructor per row of the opcode table. A command names the unit its event is taken
at and carries what arrives from outside; all else the event needs stands in the state (a CONFIG command's operands are
those of the CONFIG request at the head of the port's ingress queue). -/
inductive Instr where
  -- resets
  | coldReset
  | warmReset
  -- the request path
  | requestArrival (p : RP) (r : RawRequest)
  | offer (p : RP)
  | grant
  | postedWriteGrant
  | send (t : TP)
  | postedWriteSend (t : TP)
  | creditReturn (t : TP) (amount : Byte)
  | responseIntake (t : TP) (r : RawResponse)
  | stage1Expiry (i : Fin 32)
  | stage2Expiry (i : Fin 32)
  | reclaimExpiry (i : Fin 32)
  | containedHeadHandling (p : RP)
  | refusalPlaceAnswer (p : RP)
  -- CONFIG requests at the head of an ingress queue
  | claim (p : RP)
  | commit (p : RP)
  | abort (p : RP)
  | lockRights (p : RP)
  | shadowWrite (p : RP)
  | shadowRead (p : RP)
  | activeTableRead (p : RP)
  | rightsWrite (p : RP)
  | leaseIntervalWrite (p : RP)
  | capWrite (p : RP)
  | classIntervalWrite (p : RP)
  | reclaimIntervalWrite (p : RP)
  | fenceLimitWrite (p : RP)
  | maskWrite (p : RP)
  | alertFloorRouteWrite (p : RP)
  | counterSettingsWrite (p : RP)
  | configWrite (p : RP)
  | headFirstPartRead (p : RP)
  | pop (p : RP)
  | clearOverflow (p : RP)
  | inject (p : RP)
  | resetCounter (p : RP)
  | fence (p : RP)
  | reopen (p : RP)
  -- deadlines of the edit unit and of the counters
  | leaseExpiry
  | leakExpiry (b : Bank)
  -- the outbound side of a requester port
  | creditSend (p : RP)
  | responseSend (p : RP)
  | alertSend (p : RP)
  -- the hub link
  | trainSend (l : LinkId)
  | trainReceived (l : LinkId) (advertisement : Byte)
  | ack255Received (l : LinkId)
  | linkResetSend (l : LinkId)
  | linkResetReceived (l : LinkId)
  | packetFrameReceived (l : LinkId) (number : Byte) (kind : PacketKind) (payload : List Byte)
  | idleReceived (l : LinkId) (number : Byte)
  | crcFailureReceived (l : LinkId)
  | ackReceived (l : LinkId) (number : Byte)
  | nakReceived (l : LinkId) (number : Byte)
  | nakSend (l : LinkId)
  | ackSend (l : LinkId)
  | idleSend (l : LinkId)
  | replayTimeout (l : LinkId)
  | silenceDeadline (l : LinkId)
  deriving DecidableEq, Repr

end Sys2Proof
end

