-- ==== Sys2Proof/Machine/State.lean ====
section
/-! DEFINITION. The state of the FT-248 as plain data, its faults and refusals, and the state after a cold reset.
Times are microseconds of the clock. -/

namespace Sys2Proof.Machine

/-- No command of the block stops with a fault: the spec gives every event an effect on the state (its own faults are
records, answers, fences and containments), so there is no constructor. Safe. -/
inductive Fault where
  deriving DecidableEq, Repr

/-- Why a command has no meaning in the model. -/
inductive Refusal where
  /-- Raised by an arm of `exec` that has no meaning yet (no arm today). Safe: the run stops. -/
  | notModelled (mnemonic : String)
  deriving DecidableEq, Repr

/-- The statuses of a RESPONSE from the hub to a master (section 9.6). -/
inductive Status where
  | ok | targetError | noRoute | denied | refused | timedOut | fenced | hubFault | busy | stale | invalid
  deriving DecidableEq, Repr

/-- The three severities, CORRECTED < UNCORRECTED < FATAL (00, Severity). -/
inductive Severity where
  | corrected | uncorrected | fatal
  deriving DecidableEq, Repr

/-- The 22 record kinds, in the order of their codes (R84, section 10.3). -/
inductive Kind where
  | creditOverrun | malformed | duplicateTag | noRoute | denied | atomicRefused | requesterLinkLoss | linkRetry
  | slowResponse | timedOut | lateResponse | staleResponse | targetCorrected | targetError | targetPoison | protocol
  | abandonLimit | targetLinkLoss | manualFence | storageCheck | claimExpired | claimDropped
  deriving DecidableEq, Repr

/-- The five alert reasons (R108). -/
inductive Reason where
  | record | trip | fence | reopen | contain
  deriving DecidableEq, Repr

/-- The state of the hub (R129). -/
inductive HubState where
  | normal | contained
  deriving DecidableEq, Repr

/-- The state of a link (R152). -/
inductive LinkState where
  | down | training | up
  deriving DecidableEq, Repr

/-- The state of a target (R118). -/
inductive TargetState where
  | down | opened | fenced
  deriving DecidableEq, Repr

/-- The state of a tracker entry (R35, R36). -/
inductive EntryState where
  | free | queued | issued | late | abandoned
  deriving DecidableEq, Repr

/-- The request kinds a tracker entry holds (R35). -/
inductive MemKind where
  | read | write | swap
  deriving DecidableEq, Repr

/-- The two kinds of packet the outbound arbiter alternates between (R136, R146). -/
inductive SentKind where
  | response | alert
  deriving DecidableEq, Repr

/-- A window of the window table (R2) with its parity check (R7, R25): `parity` is true while the check passes. -/
structure Window where
  valid : Bool
  base : BitVec 28
  limit : BitVec 28
  readTarget : Option TP
  writeTarget : Option TP
  readRights : BitVec 4
  writeRights : BitVec 4
  atomic : Bool
  cls : Fin 4
  parity : Bool
  deriving DecidableEq, Repr

/-- The default route (R3) with its parity check (R7, R25). -/
structure DefaultRoute where
  ceiling : Nat
  target : Option TP
  parity : Bool
  deriving DecidableEq, Repr

/-- Sixteen windows and a default route: the shape of the active table and of the shadow (R1, R19). -/
structure Table where
  windows : Vector Window 16
  route : DefaultRoute
  deriving DecidableEq, Repr

/-- An edit claim: holder, lease deadline and shadow, which exist together or not at all (R19). -/
structure Claim where
  holder : RP
  deadline : Nat
  shadow : Table
  deriving DecidableEq, Repr

/-- The rights of one requester port (R19, R32). -/
structure Rights where
  configure : Bool
  handle : Bool
  test : Bool
  deriving DecidableEq, Repr

/-- A tracker entry (R35). `target` and `generation` are the last target and last generation while it is FREE (R37);
`parity` is true while the check of R40 passes. -/
structure Entry where
  state : EntryState
  port : RP
  tag : Tag
  kind : MemKind
  target : Option TP
  generation : Fin 4
  address : Address
  length : Nat
  cls : Fin 4
  lost : Bool
  deadline : Option Nat
  parity : Bool
  deriving DecidableEq, Repr

/-- An item of an ingress queue: an accepted request or a refusal place (R136). -/
inductive Item where
  | mem (kind : MemKind) (tag : Tag) (address : Address) (length : Nat) (data : List Byte)
  | posted (address : Address) (length : Nat) (data : List Byte)
  | configRead (tag : Tag) (number : BitVec 16)
  | configWrite (tag : Tag) (number : BitVec 16) (data : List Byte)
  | refusal (tag : Tag)
  deriving DecidableEq, Repr

/-- An answer of a response queue (R136). -/
structure Answer where
  tag : Tag
  status : Status
  data : List Byte
  deriving DecidableEq, Repr

/-- A place of an egress queue (R48). -/
inductive Place where
  | entry (i : Fin 32) (data : List Byte)
  | posted (address : Address) (length : Nat) (data : List Byte) (origin : RP)
  deriving DecidableEq, Repr

/-- A set of alert reasons; the empty set is no entry of the pending map (R110). -/
structure Reasons where
  record : Bool
  trip : Bool
  fence : Bool
  reopen : Bool
  contain : Bool
  deriving DecidableEq, Repr

/-- A record of an error bank (R82); an absent field is `none`. -/
structure Rec where
  sequence : BitVec 16
  kind : Kind
  severity : Severity
  injected : Bool
  stamp : BitVec 32
  port : Option RP
  tag : Option Tag
  target : Option TP
  entry : Option (Fin 32 × Fin 4)
  address : Option Address
  version : Option (BitVec 16)
  detail : Option (Nat × Nat)
  deriving DecidableEq, Repr

/-- A head snapshot (R91): a bank and a copy of its oldest record, or `none` for *empty*. -/
structure Snapshot where
  bank : Bank
  copy : Option Rec
  deriving DecidableEq, Repr

/-- A requester port unit (R136) with its cap (R38). `outcome` is the decode outcome held with the head (R14);
`offerDue` says that an event of R8 awaits its offer (log entry 10). -/
structure RequesterPort where
  ingress : List Item
  reckoning : Nat
  due : Nat
  responses : List Answer
  lastKind : SentKind
  alerts : Vector Reasons 11
  snapshot : Option Snapshot
  cap : Nat
  outcome : Option (TP × Fin 4)
  offerDue : Bool
  deriving DecidableEq, Repr

/-- A target port unit (R48, R49, R63, R69, R118). -/
structure TargetPort where
  state : TargetState
  egress : List Place
  credits : Nat
  advertisement : Nat
  abandon : Nat
  fenceLimit : Nat
  deriving DecidableEq, Repr

/-- A frame of the hub link without its CRC, which is computed from it (R153): number, kind code, payload. -/
structure Frame where
  number : Byte
  kind : Byte
  payload : List Byte
  deriving DecidableEq, Repr

/-- A link frame handed for sending (R154, R156, R158, R159). -/
inductive Handed where
  | ack255
  | nak (number : Byte)
  deriving DecidableEq, Repr

/-- A NAK outstanding (R152); `deadline` is 32 µs after its latest send (R159), absent until it is sent. -/
structure Nak where
  number : Byte
  count : Nat
  deadline : Option Nat
  deriving DecidableEq, Repr

/-- The hub's end of a link (R152). `handed` and `ackDue` are the frames R157 says await sending; `out` is the model's
own view of the wire: the frames put on it since the last reset, oldest first (log entry 11). -/
structure Link where
  state : LinkState
  ownAcked : Bool
  confirmed : Bool
  nextNumber : Byte
  replay : List Frame
  replayCount : Nat
  expected : Byte
  nak : Option Nak
  silence : Option Nat
  resetPending : Bool
  handed : List Handed
  ackDue : Bool
  out : List Frame
  deriving DecidableEq, Repr

/-- A threshold counter (R100). -/
structure Counter where
  enable : Bool
  count : Nat
  threshold : Nat
  leakMs : Nat
  leakDeadline : Option Nat
  tripped : Bool
  deriving DecidableEq, Repr

/-- An error bank (R78); bit `k` of `mask` is set while the kind of code `k` is masked; no floor is NONE. -/
structure BankState where
  records : List Rec
  overflow : Bool
  mask : BitVec 32
  floor : Option Severity
  route : BitVec 4
  counter : Counter
  deriving DecidableEq, Repr

/-- The state of the FT-248. `clock` counts the microseconds since the last cold reset (R81); `freeCount` numbers the
free values taken (log entries 5 and 6); `pending` is the queue of commands that wait. -/
structure State where
  clock : Nat
  hub : HubState
  active : Table
  version : BitVec 16
  claim : Option Claim
  rights : Vector Rights 4
  rightsLock : Bool
  leaseMs : Nat
  entries : Vector Entry 32
  lastGranted : RP
  classIntervals : Vector Nat 4
  reclaimMs : Nat
  ports : Vector RequesterPort 4
  targets : Vector TargetPort 6
  links : Vector Link 10
  banks : Vector BankState 11
  sequence : BitVec 16
  freeCount : Nat
  pending : List Instr
  deriving DecidableEq, Repr

/-- R5. -/
def Window.reset : Window :=
  { valid := false, base := 0, limit := 0, readTarget := none, writeTarget := none, readRights := 0, writeRights := 0,
    atomic := false, cls := 0, parity := true }

/-- R5. -/
def Table.reset : Table :=
  { windows := Vector.replicate 16 Window.reset, route := { ceiling := 0, target := none, parity := true } }

/-- R37, R41; the fields without a meaning while FREE hold zero (log entry 1). -/
def Entry.reset : Entry :=
  { state := .free, port := 0, tag := 0, kind := .read, target := none, generation := 0, address := 0, length := 0,
    cls := 0, lost := false, deadline := none, parity := true }

/-- The empty set of reasons. -/
def Reasons.empty : Reasons :=
  { record := false, trip := false, fence := false, reopen := false, contain := false }

/-- R137. -/
def RequesterPort.reset : RequesterPort :=
  { ingress := [], reckoning := 8, due := 0, responses := [], lastKind := .alert,
    alerts := Vector.replicate 11 Reasons.empty, snapshot := none, cap := 8, outcome := none, offerDue := false }

/-- R48, R49, R65, R118. -/
def TargetPort.reset : TargetPort :=
  { state := .down, egress := [], credits := 0, advertisement := 0, abandon := 0, fenceLimit := 4 }

/-- R152. -/
def Link.reset : Link :=
  { state := .down, ownAcked := false, confirmed := false, nextNumber := 0, replay := [], replayCount := 0, expected := 0,
    nak := none, silence := none, resetPending := true, handed := [], ackDue := false, out := [] }

/-- R101. -/
def Counter.reset : Counter :=
  { enable := true, count := 0, threshold := 4095, leakMs := 0, leakDeadline := none, tripped := false }

/-- R79. -/
def BankState.reset : BankState :=
  { records := [], overflow := false, mask := 0, floor := some .uncorrected, route := 0, counter := Counter.reset }

/-- R20. -/
def Rights.reset : Rights := { configure := true, handle := true, test := true }

/-- The machine after a cold reset: R5, R20, R41, R65, R79, R80, R81, R92, R101, R111, R118, R129, R137, R152. -/
def State.reset : State :=
  { clock := 0
    hub := .normal
    active := Table.reset
    version := 0
    claim := none
    rights := Vector.replicate 4 Rights.reset
    rightsLock := false
    leaseMs := 200
    entries := Vector.replicate 32 Entry.reset
    lastGranted := 3
    classIntervals := #v[125, 625, 2500, 4095]
    reclaimMs := 50
    ports := Vector.replicate 4 RequesterPort.reset
    targets := Vector.replicate 6 TargetPort.reset
    links := Vector.replicate 10 Link.reset
    banks := Vector.replicate 11 BankState.reset
    sequence := 0
    freeCount := 0
    pending := [] }

end Sys2Proof.Machine
end

