-- ==== Sys2Proof/Machine/Operands.lean ====
section
/-! DEFINITION. The operand forms of the block: byte order, the codes of section 9.6 and section 10.3, the record map of
R166, the command codes of R168, and the record layouts of section 10.3 in both directions. -/

namespace Sys2Proof.Machine

/-! ## Bytes. Multi-byte fields are most significant byte first (sections 9.6 and 10.3). -/

/-- Byte `k` of a packet or record. -/
def byteAt (data : List Byte) (k : Nat) : Byte := data.getD k 0

/-- `n` bytes of FFh. -/
def ones (n : Nat) : List Byte := List.replicate n 0xFF

/-- The 16-bit field at bytes `k` and `k + 1`. -/
def be16 (data : List Byte) (k : Nat) : BitVec 16 := byteAt data k ++ byteAt data (k + 1)

/-- The 32-bit field from byte `k`. -/
def be32 (data : List Byte) (k : Nat) : BitVec 32 := be16 data k ++ be16 data (k + 2)

/-- The 40-bit field from byte `k`. -/
def be40 (data : List Byte) (k : Nat) : Address := byteAt data k ++ be32 data (k + 1)

/-- A 16-bit field as two bytes. -/
def bytes16 (w : BitVec 16) : List Byte := [w.extractLsb' 8 8, w.extractLsb' 0 8]

/-- A 32-bit field as four bytes. -/
def bytes32 (w : BitVec 32) : List Byte := bytes16 (w.extractLsb' 16 16) ++ bytes16 (w.extractLsb' 0 16)

/-- A 40-bit field as five bytes. -/
def bytes40 (w : Address) : List Byte := w.extractLsb' 32 8 :: bytes32 (w.extractLsb' 0 32)

/-- A number as one byte. -/
def byteOf (n : Nat) : Byte := BitVec.ofNat 8 n

/-- A flag as the number 0 or 1. -/
def bit (b : Bool) : Nat := if b then 1 else 0

/-- `k` as a member of a range of `n`, where it is one. -/
def finOf (n k : Nat) : Option (Fin n) := if h : k < n then some ⟨k, h⟩ else none

/-! ## Codes -/

/-- The code of a record kind (section 10.3). -/
def Kind.code : Kind → Nat
  | .creditOverrun => 1
  | .malformed => 2
  | .duplicateTag => 3
  | .noRoute => 4
  | .denied => 5
  | .atomicRefused => 6
  | .requesterLinkLoss => 7
  | .linkRetry => 8
  | .slowResponse => 9
  | .timedOut => 10
  | .lateResponse => 11
  | .staleResponse => 12
  | .targetCorrected => 13
  | .targetError => 14
  | .targetPoison => 15
  | .protocol => 16
  | .abandonLimit => 17
  | .targetLinkLoss => 18
  | .manualFence => 19
  | .storageCheck => 20
  | .claimExpired => 21
  | .claimDropped => 22

/-- All 22 kinds, by code. -/
def Kind.all : List Kind :=
  [.creditOverrun, .malformed, .duplicateTag, .noRoute, .denied, .atomicRefused, .requesterLinkLoss, .linkRetry,
   .slowResponse, .timedOut, .lateResponse, .staleResponse, .targetCorrected, .targetError, .targetPoison, .protocol,
   .abandonLimit, .targetLinkLoss, .manualFence, .storageCheck, .claimExpired, .claimDropped]

/-- The kind of a code, where the code names one. -/
def Kind.ofCode (n : Nat) : Option Kind := Kind.all.find? fun k => k.code == n

/-- The code of a status in a RESPONSE from the hub (section 9.6). -/
def Status.code : Status → Nat
  | .ok => 0
  | .targetError => 1
  | .noRoute => 2
  | .denied => 3
  | .refused => 4
  | .timedOut => 5
  | .fenced => 6
  | .hubFault => 7
  | .busy => 8
  | .stale => 9
  | .invalid => 10

/-- The code of a severity (section 10.3), which is also its rank (00, Severity). -/
def Severity.code : Severity → Nat
  | .corrected => 0
  | .uncorrected => 1
  | .fatal => 2

/-- The severity of a code, where the code names one. -/
def Severity.ofCode (n : Nat) : Option Severity :=
  match n with
  | 0 => some .corrected
  | 1 => some .uncorrected
  | 2 => some .fatal
  | _ => none

end Sys2Proof.Machine

namespace Sys2Proof

/-- The bank number of R166, which is also the bank order (00, Conventions). -/
def Bank.idx : Bank → Fin 11
  | .req p => ⟨p.val, by omega⟩
  | .tgt t => ⟨4 + t.val, by omega⟩
  | .hub => ⟨10, by omega⟩

/-- The bank of a bank number. -/
def Bank.ofIdx (i : Fin 11) : Bank :=
  if h : i.val < 4 then .req ⟨i.val, h⟩ else if h' : i.val < 10 then .tgt ⟨i.val - 4, by omega⟩ else .hub

/-- The bank of a bank operand (R168). -/
def Bank.ofCode (n : Nat) : Option Bank := (Machine.finOf 11 n).map Bank.ofIdx

/-- The place of a link among the ten. -/
def LinkId.idx : LinkId → Fin 10
  | .rp p => ⟨p.val, by omega⟩
  | .tp t => ⟨4 + t.val, by omega⟩

/-- The bank of a link's port (R84). -/
def LinkId.bank : LinkId → Bank
  | .rp p => .req p
  | .tp t => .tgt t

/-- The kinds that belong to a bank's class (R86). -/
def Bank.holds (b : Bank) (k : Machine.Kind) : Bool :=
  match b with
  | .req _ => k.code ≤ 8
  | .tgt _ => 8 ≤ k.code && k.code ≤ 19
  | .hub => 20 ≤ k.code

end Sys2Proof

namespace Sys2Proof.Machine

/-- A link state code (section 10.3). -/
def LinkState.code : LinkState → Nat
  | .down => 0
  | .training => 1
  | .up => 2

/-- A target state code (section 10.3). -/
def TargetState.code : TargetState → Nat
  | .down => 0
  | .opened => 1
  | .fenced => 2

/-- A request kind code of a REQUEST from the hub (section 9.6). -/
def MemKind.code : MemKind → Nat
  | .read => 1
  | .write => 2
  | .swap => 4

/-- A target field of a window or of the default route: 0 to 5, or 7 for NONE (section 10.3, log entry 24). -/
def targetCode : Option TP → Byte
  | some t => byteOf t.val
  | none => 7

/-- The target a written target code names: `some none` is NONE, `none` is out of range (R24, R167). -/
def targetOfCode (b : Byte) : Option (Option TP) :=
  if b = 7 then some none else (finOf 6 b.toNat).map some

/-- A byte that reads FFh when its item is absent (section 10.3). -/
def orOnes {α : Type} (f : α → Byte) : Option α → Byte
  | some a => f a
  | none => 0xFF

/-- An entry byte: index in bits 4 to 0, generation in bits 6 and 5 (section 10.3). -/
def entryByte (e : Fin 32 × Fin 4) : Byte := byteOf (e.1.val + 32 * e.2.val)

/-- An optional operand byte of INJECT: FFh is absent, else its value must lie in the range `n` (R97, R168). -/
def optionalOperand (n : Nat) (b : Byte) : Option (Option (Fin n)) :=
  if b = 0xFF then some none else (finOf n b.toNat).map some

/-- The entry operand of INJECT: FFh is absent (R97, section 10.3). Section 10.3 lists bits 6 to 0 alone: that a byte of 80h to
FEh, whose bit 7 is set, is out of range (R167) and not read without its bit 7 is a DESIGN CHOICE (log entry 40, unsafe). -/
def entryOperand (b : Byte) : Option (Option (Fin 32 × Fin 4)) :=
  if b = 0xFF then some none
  else (finOf 128 b.toNat).map fun n => some (⟨n.val % 32, by omega⟩, ⟨n.val / 32, by omega⟩)

/-- A flag byte 0 or 1 of a window record. -/
def flagOfByte (b : Byte) : Option Bool :=
  if b = 0 then some false else if b = 1 then some true else none

/-- A set of requester ports in bits 3 to 0, bit `n` for RP`n`; a bit above those defined is out of range (R167). Section 10.3
states that order for the alert route; for the rights bytes of a window it is a DESIGN CHOICE (log entry 37, unsafe). -/
def portSetOfByte (b : Byte) : Option (BitVec 4) :=
  if b.toNat < 16 then some (b.extractLsb' 0 4) else none

/-! ## The record map (R166) -/

/-- A record of the record space. -/
inductive RecordId where
  | identity
  | sequenceStamp
  | hubState
  | editState
  | occupancy
  | command
  | port (p : RP)
  | rights (p : RP)
  | classInterval (c : Fin 4)
  | reclaimInterval
  | leaseInterval
  | target (t : TP)
  | headFirst (b : Bank)
  | headSecond (b : Bank)
  | headThird (b : Bank)
  | bankStatus (b : Bank)
  | mask (b : Bank)
  | alert (b : Bank)
  | counter (b : Bank)
  | activeRange (w : Fin 16)
  | activeRouting (w : Fin 16)
  | activeDefault
  | shadowRange (w : Fin 16)
  | shadowRouting (w : Fin 16)
  | shadowDefault
  deriving DecidableEq, Repr

/-- The seven records of a bank, by their offset (R166). -/
def bankRecord (b : Bank) (k : Nat) : Option RecordId :=
  match k with
  | 0 => some (.headFirst b)
  | 1 => some (.headSecond b)
  | 2 => some (.headThird b)
  | 3 => some (.bankStatus b)
  | 4 => some (.mask b)
  | 5 => some (.alert b)
  | 6 => some (.counter b)
  | _ => none

/-- The record a record number names (R166); every other number is unused. -/
def recordOf (number : BitVec 16) : Option RecordId :=
  let n := number.toNat
  if n = 0x0000 then some .identity
  else if n = 0x0002 then some .sequenceStamp
  else if n = 0x0003 then some .hubState
  else if n = 0x0004 then some .editState
  else if n = 0x0005 then some .occupancy
  else if n = 0x0008 then some .command
  else if 0x0010 ≤ n ∧ n < 0x0014 then (finOf 4 (n - 0x0010)).map .port
  else if 0x0018 ≤ n ∧ n < 0x001C then (finOf 4 (n - 0x0018)).map .rights
  else if 0x0020 ≤ n ∧ n < 0x0024 then (finOf 4 (n - 0x0020)).map .classInterval
  else if n = 0x0024 then some .reclaimInterval
  else if n = 0x0025 then some .leaseInterval
  else if 0x0030 ≤ n ∧ n < 0x0036 then (finOf 6 (n - 0x0030)).map .target
  else if 0x0100 ≤ n ∧ n < 0x0158 then
    (Bank.ofCode ((n - 0x0100) / 8)).bind fun b => bankRecord b ((n - 0x0100) % 8)
  else if 0x0200 ≤ n ∧ n < 0x0220 then
    (finOf 16 ((n - 0x0200) / 2)).map fun w => if n % 2 = 0 then .activeRange w else .activeRouting w
  else if n = 0x0220 then some .activeDefault
  else if 0x0300 ≤ n ∧ n < 0x0320 then
    (finOf 16 ((n - 0x0300) / 2)).map fun w => if n % 2 = 0 then .shadowRange w else .shadowRouting w
  else if n = 0x0320 then some .shadowDefault
  else none

/-! ## The command record (R168) -/

/-- A command of the command record. -/
inductive Command where
  | claim | commit | abort | lockRights | pop | clearOverflow | inject | resetCounter | fence | reopen
  deriving DecidableEq, Repr

/-- The command a code names (R168). -/
def Command.ofByte (b : Byte) : Option Command :=
  if b = 0x01 then some .claim
  else if b = 0x02 then some .commit
  else if b = 0x03 then some .abort
  else if b = 0x04 then some .lockRights
  else if b = 0x10 then some .pop
  else if b = 0x11 then some .clearOverflow
  else if b = 0x12 then some .inject
  else if b = 0x13 then some .resetCounter
  else if b = 0x20 then some .fence
  else if b = 0x21 then some .reopen
  else none

/-! ## Layouts written (section 10.3, R167): the fields a write carries, where every one is within its range -/

/-- Window range: valid, base page, limit page. -/
def rangeOfBytes (data : List Byte) : Option (Bool × BitVec 28 × BitVec 28) :=
  (flagOfByte (byteAt data 0)).map fun v =>
    (v, (be32 data 1).extractLsb' 4 28, (be32 data 4).extractLsb' 0 28)

/-- The fields of a window routing record. -/
structure Routing where
  readTarget : Option TP
  writeTarget : Option TP
  readRights : BitVec 4
  writeRights : BitVec 4
  atomic : Bool
  cls : Fin 4
  deriving DecidableEq, Repr

/-- Window routing; which bit of a rights byte is which port is a DESIGN CHOICE (log entry 37). -/
def routingOfBytes (data : List Byte) : Option Routing := do
  let readTarget ← targetOfCode (byteAt data 0)
  let writeTarget ← targetOfCode (byteAt data 1)
  let readRights ← portSetOfByte (byteAt data 2)
  let writeRights ← portSetOfByte (byteAt data 3)
  let atomic ← flagOfByte (byteAt data 4)
  let cls ← finOf 4 (byteAt data 5).toNat
  return { readTarget, writeTarget, readRights, writeRights, atomic, cls }

/-- Default route: ceiling page 0 to 2^28, default target. -/
def defaultOfBytes (data : List Byte) : Option (Nat × Option TP) := do
  let target ← targetOfCode (byteAt data 4)
  if (be32 data 0).toNat ≤ 2 ^ 28 then return ((be32 data 0).toNat, target) else none

/-- Rights: bits 2 to 0; a bit above those defined is out of range. -/
def rightsOfBytes (data : List Byte) : Option Rights :=
  let b := byteAt data 0
  if b.toNat < 8 then
    some { configure := b.getLsbD 0, handle := b.getLsbD 1, test := b.getLsbD 2 }
  else none

/-- A number within `lo` to `hi`. -/
def inRange (lo hi n : Nat) : Option Nat := if lo ≤ n ∧ n ≤ hi then some n else none

/-- Whether every set bit of a mask names a kind of the bank's class (R86, R167). -/
def maskFits (b : Bank) (m : BitVec 32) : Bool :=
  (List.range 32).all fun k => !m.getLsbD k || ((Kind.ofCode k).any fun kind => b.holds kind)

/-- Mask: 32 bits, bit `k` for kind code `k`. -/
def maskOfBytes (b : Bank) (data : List Byte) : Option (BitVec 32) :=
  if maskFits b (be32 data 0) then some (be32 data 0) else none

/-- Alert floor and route; floor code 3 is NONE. -/
def alertOfBytes (data : List Byte) : Option (Option Severity × BitVec 4) := do
  let route ← portSetOfByte (byteAt data 1)
  if (byteAt data 0).toNat = 3 then return (none, route)
  else
    let floor ← Severity.ofCode (byteAt data 0).toNat
    return (some floor, route)

/-- Counter settings: enable, threshold, leak interval (R104). -/
def counterOfBytes (data : List Byte) : Option (Bool × Nat × Nat) :=
  (inRange 1 4095 (be16 data 3).toNat).map fun threshold =>
    ((byteAt data 0).getLsbD 0, threshold, (byteAt data 5).toNat)

/-- The operands of INJECT (R97). -/
structure Injection where
  bank : Bank
  kind : Kind
  severity : Severity
  port : Option RP
  tag : Option Tag
  target : Option TP
  entry : Option (Fin 32 × Fin 4)
  deriving DecidableEq, Repr

/-- INJECT: bank, kind of the bank's class, severity, and the optional fields. -/
def injectionOfBytes (data : List Byte) : Option Injection := do
  let bank ← Bank.ofCode (byteAt data 1).toNat
  let kind ← Kind.ofCode (byteAt data 2).toNat
  let severity ← Severity.ofCode (byteAt data 3).toNat
  let port ← optionalOperand 4 (byteAt data 4)
  let tag ← optionalOperand 64 (byteAt data 5)
  let target ← optionalOperand 6 (byteAt data 6)
  let entry ← entryOperand (byteAt data 7)
  if bank.holds kind then return { bank, kind, severity, port, tag, target, entry } else none

/-! ## Layouts read (section 10.3). `free k` stands for the content of byte `k` where the layout states none
(log entry 5). -/

/-- Window range. -/
def rangeBytes (w : Window) : List Byte :=
  let pages : BitVec 56 := w.base ++ w.limit
  [byteOf (bit w.valid), pages.extractLsb' 48 8, pages.extractLsb' 40 8, pages.extractLsb' 32 8, pages.extractLsb' 24 8,
   pages.extractLsb' 16 8, pages.extractLsb' 8 8, pages.extractLsb' 0 8]

/-- Window routing; bytes 6 and 7 are not stated. Bit `n` of a rights byte is RP`n`, a DESIGN CHOICE (log entry 37). -/
def routingBytes (free : Nat → Byte) (w : Window) : List Byte :=
  [targetCode w.readTarget, targetCode w.writeTarget, w.readRights.setWidth 8, w.writeRights.setWidth 8,
   byteOf (bit w.atomic), byteOf w.cls.val, free 6, free 7]

/-- Default route; bytes 5 to 7 are not stated. -/
def defaultBytes (free : Nat → Byte) (d : DefaultRoute) : List Byte :=
  bytes32 (BitVec.ofNat 32 d.ceiling) ++ [targetCode d.target, free 5, free 6, free 7]

/-- A record whose first bytes are given and whose further bytes are not stated. -/
def padded (free : Nat → Byte) (stated : List Byte) : List Byte :=
  stated ++ ((List.range 8).drop stated.length).map free

/-- Head, first part: bit 0 record held, bits 2 and 1 severity, bit 3 injected; kind code; sequence; stamp. An *empty*
copy reports bit 0 clear, and nothing else is stated of it (R91). -/
def headFirstBytes (free : Nat → Byte) : Option Rec → List Byte
  | some r =>
    [byteOf (1 + 2 * r.severity.code + 8 * bit r.injected), byteOf r.kind.code] ++ bytes16 r.sequence ++ bytes32 r.stamp
  | none => (free 0 &&& 0xFE) :: (List.range 7).map fun k => free (k + 1)

/-- Head, second part: port, tag, target, entry; presence bits; entries answered; posted writes discarded; held. -/
def headSecondBytes (free : Nat → Byte) : Option Rec → List Byte
  | some r =>
    [orOnes (fun p => byteOf p.val) r.port, orOnes (fun g => byteOf g.val) r.tag, orOnes (fun t => byteOf t.val) r.target,
     orOnes entryByte r.entry,
     byteOf (bit r.address.isSome + 2 * bit r.version.isSome + 4 * bit r.detail.isSome),
     (r.detail.map fun d => byteOf d.1).getD (free 5), (r.detail.map fun d => byteOf d.2).getD (free 6), 1]
  | none => [0xFF, 0xFF, 0xFF, 0xFF, 0, free 5, free 6, 0]

/-- Head, third part: table version; held; address. -/
def headThirdBytes (free : Nat → Byte) : Option Rec → List Byte
  | some r =>
    (r.version.map bytes16).getD [free 0, free 1] ++ [1] ++
      (r.address.map bytes40).getD [free 3, free 4, free 5, free 6, free 7]
  | none => [free 0, free 1, 0, free 3, free 4, free 5, free 6, free 7]

/-- Bank status: occupancy; overflow; floor (3 NONE); route; mask. -/
def bankStatusBytes (b : BankState) : List Byte :=
  [byteOf b.records.length, byteOf (bit b.overflow), byteOf ((b.floor.map Severity.code).getD 3), b.route.setWidth 8] ++
    bytes32 b.mask

/-- Counter: bit 0 enable, bit 1 tripped; count; threshold; leak interval. -/
def counterBytes (c : Counter) : List Byte :=
  [byteOf (bit c.enable + 2 * bit c.tripped)] ++ bytes16 (BitVec.ofNat 16 c.count) ++
    bytes16 (BitVec.ofNat 16 c.threshold) ++ [byteOf c.leakMs]

/-- Rights: bits 2 to 0. -/
def rightsByte (r : Rights) : Byte := byteOf (bit r.configure + 2 * bit r.handle + 4 * bit r.test)

/-- The identity record (R170): part code, revision, counts of requester ports, target ports, entries, windows, banks. -/
def identityBytes : List Byte := [0xF2, 0x48, 0x01, 4, 6, 32, 16, 11]

end Sys2Proof.Machine
end

