-- ==== Sys2Proof/Machine/Ops.lean ====
section
/-! DEFINITION. The shared operations over the state: the one place each register is read and written through, the room
rule, answers, the ingress head, held counts, offers, and the serving of a CONFIG request. -/

namespace Sys2Proof.Machine

/-- What a command answers. -/
abbrev Result := Host.Outcome State Fault Refusal

/-! ## Registers -/

/-- The microsecond stamp (R81): the low 32 bits of the clock. -/
def State.stamp (s : State) : BitVec 32 := BitVec.ofNat 32 s.clock

/-- The unit of requester port `p`. -/
def State.port (s : State) (p : RP) : RequesterPort := look s.ports p

/-- Replaces the unit of requester port `p`. -/
def State.setPort (s : State) (p : RP) (r : RequesterPort) : State := { s with ports := upd s.ports p r }

/-- The unit of target port `t`. -/
def State.target (s : State) (t : TP) : TargetPort := look s.targets t

/-- Replaces the unit of target port `t`. -/
def State.setTarget (s : State) (t : TP) (r : TargetPort) : State := { s with targets := upd s.targets t r }

/-- Tracker entry `i`. -/
def State.entry (s : State) (i : Fin 32) : Entry := look s.entries i

/-- Replaces tracker entry `i`. -/
def State.setEntry (s : State) (i : Fin 32) (e : Entry) : State := { s with entries := upd s.entries i e }

/-- The hub's end of link `l`. -/
def State.link (s : State) (l : LinkId) : Link := look s.links l.idx

/-- Replaces the hub's end of link `l`. -/
def State.setLink (s : State) (l : LinkId) (k : Link) : State := { s with links := upd s.links l.idx k }

/-- Error bank `b`. -/
def State.bank (s : State) (b : Bank) : BankState := look s.banks b.idx

/-- Replaces error bank `b`. -/
def State.setBank (s : State) (b : Bank) (k : BankState) : State := { s with banks := upd s.banks b.idx k }

/-- The rights of port `p` (R32). -/
def State.rightsOf (s : State) (p : RP) : Rights := look s.rights p

/-- The interval of a timeout class in µs (R61). -/
def State.classMicros (s : State) (c : Fin 4) : Nat := Config.classUnitMicros * look s.classIntervals c

/-- A number of milliseconds in µs. -/
abbrev micros (ms : Nat) : Nat := 1000 * ms

/-- Whether a deadline is present and has been reached (R66). -/
def State.reached (s : State) (deadline : Option Nat) : Bool := deadline.any fun d => d ≤ s.clock

/-! ## Entries and held counts -/

/-- An entry that is owed an answer: QUEUED, ISSUED or LATE. -/
def Entry.live (e : Entry) : Bool := e.state = .queued || e.state = .issued || e.state = .late

/-- An entry that counts toward the held count of port `p` (R38). -/
def Entry.heldBy (e : Entry) (p : RP) : Bool := e.live && e.port = p

/-- The held count of port `p` (R38). -/
def State.heldCount (s : State) (p : RP) : Nat := s.entries.toList.countP fun e => e.heldBy p

/-- The number of ABANDONED entries of target `t` (R69). -/
def State.abandonedCount (s : State) (t : TP) : Nat :=
  s.entries.toList.countP fun e => e.state = .abandoned && e.target = some t

/-- The number of entries in a state (R60). -/
def State.stateCount (s : State) (e : EntryState) : Nat := s.entries.toList.countP fun x => x.state = e

/-- The entry after its return to FREE: its target and generation stay as the last ones (R37), its deadline is
discarded, and requester lost stays until the next grant (R39). -/
def Entry.freed (e : Entry) : Entry := { e with state := .free, deadline := none }

/-- The data of a hub-made answer (R15, R68, R121): FFh for the length of a READ or SWAP, none for a WRITE. -/
def hubData (kind : MemKind) (length : Nat) : List Byte :=
  match kind with
  | .write => []
  | .read => ones length
  | .swap => ones length

/-- The hub-made answer of an entry. -/
def Entry.hubAnswer (e : Entry) (status : Status) : Answer :=
  { tag := e.tag, status, data := hubData e.kind e.length }

/-! ## Offers (R8) and the ingress head -/

/-- An event of R8 that concerns every waiting head. -/
def State.offerAll (s : State) : State :=
  { s with ports := tab fun p => { look s.ports p with offerDue := true } }

/-- An event of R8 that concerns the head of port `p`. -/
def State.offerPort (s : State) (p : RP) : State := s.setPort p { s.port p with offerDue := true }

/-- Entry `i` returns to FREE; a freed entry is an offer event for every head (R8). -/
def State.freeEntry (s : State) (i : Fin 32) : State := (s.setEntry i (s.entry i).freed).offerAll

/-- Room in the response queue of port `p` (R145). -/
def State.room (s : State) (p : RP) : Bool :=
  (s.port p).responses.length + s.heldCount p < Config.responseDepth

/-- Places an answer at the tail of the response queue of port `p`. -/
def State.place (s : State) (p : RP) (a : Answer) : State :=
  s.setPort p { s.port p with responses := (s.port p).responses ++ [a] }

/-- The head leaves the ingress queue of port `p`: one credit becomes due (R138), the outcome held with it goes (R14),
and the next item becomes the head, which is an offer event (R8). -/
def State.leaveHead (s : State) (p : RP) : State :=
  s.setPort p { s.port p with
    ingress := (s.port p).ingress.tail
    due := (s.port p).due + 1
    outcome := none
    offerDue := true }

/-- The head of port `p` leaves with an answer. -/
def State.answerHead (s : State) (p : RP) (a : Answer) : State := (s.place p a).leaveHead p

/-! ## Serving CONFIG requests (R144, R165) -/

/-- The CONFIG WRITE at the head of port `p`, when there is room for its answer. -/
def State.writeHead (s : State) (p : RP) : Option (Tag × BitVec 16 × List Byte) :=
  match (s.port p).ingress.head? with
  | some (.configWrite tag number data) => if s.room p then some (tag, number, data) else none
  | _ => none

/-- The CONFIG READ at the head of port `p`, when there is room for its answer. -/
def State.readHead (s : State) (p : RP) : Option (Tag × BitVec 16) :=
  match (s.port p).ingress.head? with
  | some (.configRead tag number) => if s.room p then some (tag, number) else none
  | _ => none

/-- The answer to a CONFIG WRITE is placed after the effect of its command, and the head leaves (R144, R125). -/
def finishWrite (p : RP) (tag : Tag) (r : State × Status) : State :=
  r.1.answerHead p { tag, status := r.2, data := [] }

/-- The answer to a CONFIG READ carries 8 bytes, FFh where the status is not OK (R144). -/
def finishRead (p : RP) (tag : Tag) (r : State × Status × List Byte) : State :=
  ({ r.1 with freeCount := r.1.freeCount + 8 }).answerHead p
    { tag, status := r.2.1, data := if r.2.1 = Status.ok then r.2.2 else ones 8 }

/-- Serves the CONFIG WRITE at the head of port `p` where `run` has an effect for its record; any other head, and a head
without room, is left as it is. -/
def State.serveWrite (s : State) (p : RP) (run : Tag → RecordId → List Byte → Option (State × Status)) : State :=
  match s.writeHead p with
  | some (tag, number, data) =>
    match (recordOf number).bind fun r => run tag r data with
    | some r => finishWrite p tag r
    | none => s
  | none => s

/-- Serves the command `c` of the command record at the head of port `p` (R168). -/
def State.serveCommand (s : State) (p : RP) (c : Command) (run : Tag → List Byte → State × Status) : State :=
  s.serveWrite p fun tag r data =>
    match r with
    | .command => if Command.ofByte (byteAt data 0) = some c then some (run tag data) else none
    | _ => none

/-- Serves the CONFIG READ at the head of port `p` where `run` has an answer for its record. -/
def State.serveRead (s : State) (p : RP) (run : Tag → RecordId → Option (State × Status × List Byte)) : State :=
  match s.readHead p with
  | some (tag, number) =>
    match (recordOf number).bind fun r => run tag r with
    | some r => finishRead p tag r
    | none => s
  | none => s

/-- The first condition of every CONFIG WRITE but POP: the hub is NORMAL (R165, R131). -/
def State.whenNormal (s : State) (r : State × Status) : State × Status :=
  if s.hub = .contained then (s, .hubFault) else r

/-- The right a command needs, read as the rights table stands (R32). -/
def State.whenRight (s : State) (p : RP) (right : Rights → Bool) (r : State × Status) : State × Status :=
  if right (s.rightsOf p) then r else (s, .denied)

/-- A write judged and stored whole (R167): INVALID where a field is out of range. -/
def State.whenValid {α : Type} (s : State) (operand : Option α) (store : α → State × Status) : State × Status :=
  match operand with
  | some a => store a
  | none => (s, .invalid)

/-- A settings write: hub NORMAL, CONFIGURE, fields in range (R32, R93, R167). -/
def State.settingsWrite {α : Type} (s : State) (p : RP) (operand : Option α) (store : α → State) : State × Status :=
  s.whenNormal (s.whenRight p Rights.configure (s.whenValid operand fun a => (store a, Status.ok)))

/-- The content of byte `k` where section 10.3 states none (log entry 5). -/
def State.free (s : State) (k : Nat) : Byte := Config.freeByte (s.freeCount + k)

end Sys2Proof.Machine
end

