-- ==== Sys2Proof/Machine/Flags.lean ====
section
/-! DEFINITION. The status flags and what sets them: alert reasons and pending maps (R108 to R110), threshold counters
(R102 to R104), the full-bank rule with its overflow flag (R87), and the creation of a record (R85). -/

namespace Sys2Proof.Machine

/-! ## Alert reasons -/

/-- The set with a reason added; a reason already in it leaves it unchanged (R110). -/
def Reasons.add (r : Reasons) (x : Reason) : Reasons :=
  match x with
  | .record => { r with record := true }
  | .trip => { r with trip := true }
  | .fence => { r with fence := true }
  | .reopen => { r with reopen := true }
  | .contain => { r with contain := true }

/-- Whether the set is empty, which is no entry in the map. -/
def Reasons.isEmpty (r : Reasons) : Bool := !(r.record || r.trip || r.fence || r.reopen || r.contain)

/-- The reasons byte of an ALERT, bits 4 to 0 (section 9.6). -/
def Reasons.code (r : Reasons) : Nat :=
  bit r.record + 2 * bit r.trip + 4 * bit r.fence + 8 * bit r.reopen + 16 * bit r.contain

/-- A port receives a bank's reasons when it is in the bank's route and its link is UP (R110). -/
def State.routed (s : State) (b : Bank) (p : RP) : Bool :=
  (s.bank b).route.getLsbD p.val && (s.link (.rp p)).state = .up

/-- Bank `b` raises a reason: it joins the bank's set in the pending map of every routed port whose link is UP (R110). -/
def State.raise (s : State) (b : Bank) (x : Reason) : State :=
  { s with ports := tab fun p =>
      if s.routed b p then
        { look s.ports p with alerts := upd (look s.ports p).alerts b.idx ((look (look s.ports p).alerts b.idx).add x) }
      else look s.ports p }

/-! ## Threshold counters -/

/-- Offers a record to a counter (R102). -/
def Counter.offer (c : Counter) (severity : Severity) : Counter :=
  if severity = .corrected && c.enable && !c.tripped then
    { c with count := c.count + 1, tripped := c.count + 1 = c.threshold }
  else c

/-- The leak deadline set at a moment: absent exactly while the leak interval is 0 (R100). -/
def leakFrom (now leakMs : Nat) : Option Nat := if leakMs = 0 then none else some (now + micros leakMs)

/-- A leak expiry (R103). -/
def Counter.leak (c : Counter) (now : Nat) : Counter :=
  { c with
    count := if c.tripped then c.count else c.count - 1
    leakDeadline := leakFrom now c.leakMs }

/-- A counter settings write (R104): the count is compared with the new threshold, and the leak deadline restarts. -/
def Counter.write (c : Counter) (now : Nat) (enable : Bool) (threshold leakMs : Nat) : Counter :=
  { enable, threshold, leakMs
    count := if threshold ≤ c.count then threshold else c.count
    tripped := threshold ≤ c.count
    leakDeadline := leakFrom now leakMs }

/-! ## Records -/

/-- What a detecting block reports to a bank: the fields of R82 but for the sequence and the stamp. -/
structure Report where
  kind : Kind
  severity : Severity
  injected : Bool := false
  port : Option RP := none
  tag : Option Tag := none
  target : Option TP := none
  entry : Option (Fin 32 × Fin 4) := none
  address : Option Address := none
  version : Option (BitVec 16) := none
  detail : Option (Nat × Nat) := none
  deriving DecidableEq, Repr

/-- The record created from a report: the next sequence and the current stamp (R80, R81, R82). -/
def State.newRecord (s : State) (r : Report) : Rec :=
  { sequence := s.sequence, kind := r.kind, severity := r.severity, injected := r.injected, stamp := s.stamp,
    port := r.port, tag := r.tag, target := r.target, entry := r.entry, address := r.address, version := r.version,
    detail := r.detail }

/-- The queue without its newest record that is not FATAL (R87). -/
def displaceNewest (records : List Rec) : List Rec :=
  (records.reverse.eraseP fun r => r.severity ≠ .fatal).reverse

/-- The full-bank rule (R87): the record queue and the overflow flag after a record is created. -/
def fullBank (b : BankState) (r : Rec) : BankState :=
  if b.records.length < Config.bankDepth then { b with records := b.records ++ [r] }
  else if r.severity = .fatal && b.records.any (fun x => x.severity ≠ .fatal) then
    { b with records := displaceNewest b.records ++ [r], overflow := true }
  else { b with overflow := true }

/-- Whether a record of a severity raises RECORD under a floor (R109). -/
def atFloor (severity : Severity) (floor : Option Severity) : Bool := floor.any fun f => f.code ≤ severity.code

/-- Whether bank `b` masks a kind (R86). -/
def BankState.masks (b : BankState) (k : Kind) : Bool := b.mask.getLsbD k.code

/-- A detecting block's event reports a kind to bank `b` (R85). A masked kind changes nothing. Otherwise a record is
created with the next sequence, offered to the counter and the alert unit, and given to the full-bank rule. -/
def State.report (s : State) (b : Bank) (r : Report) : State :=
  let k := s.bank b
  if k.masks r.kind then s
  else
    let c := k.counter.offer r.severity
    let s₁ := ({ s with sequence := s.sequence + 1 }).setBank b { fullBank k (s.newRecord r) with counter := c }
    let s₂ := if atFloor r.severity k.floor then s₁.raise b .record else s₁
    if c.tripped && !k.counter.tripped then s₂.raise b .trip else s₂

end Sys2Proof.Machine
end

