-- ==== Sys2Proof/Machine/Wire.lean ====
section
/-! DEFINITION. The frames and packets of section 9.6 as the hub sends them, and the operations on the hub's end of one
link: handing link frames, sending frames, the replay buffer, and the leaving of UP (R152 to R162). -/

namespace Sys2Proof.Machine

/-! ## Packets and frames -/

/-- The frame kind codes of section 9.6. -/
def packetCode : PacketKind → Byte
  | .request => 0x01
  | .response => 0x02
  | .credit => 0x03
  | .alert => 0x04

/-- The payload of a REQUEST to a target for an entry (section 9.6). -/
def Entry.requestPayload (e : Entry) (i : Fin 32) (data : List Byte) : List Byte :=
  [byteOf e.kind.code, byteOf i.val, byteOf e.generation.val, byteOf e.port.val] ++ bytes40 e.address ++
    [byteOf e.length] ++ data

/-- The payload of a REQUEST of kind POSTED WRITE to a target, with index and generation absent (section 9.6). -/
def postedPayload (address : Address) (length : Nat) (data : List Byte) (origin : RP) : List Byte :=
  [3, 0xFF, 0xFF, byteOf origin.val] ++ bytes40 address ++ [byteOf length] ++ data

/-- The payload of a RESPONSE to a master (section 9.6). -/
def Answer.payload (a : Answer) : List Byte := [byteOf a.tag.val, byteOf a.status.code] ++ a.data

/-- The payload of an ALERT (R112, section 9.6): bit 7 of the reasons byte says that a newest sequence is carried. Bits 6 and 5,
of which section 9.6 says nothing, are sent as 0: DESIGN CHOICE (log entry 38, unsafe). -/
def alertPayload (b : Bank) (reasons : Reasons) (newest : Option (BitVec 16)) (stamp : BitVec 32) : List Byte :=
  [byteOf b.idx.val, byteOf (reasons.code + 128 * bit newest.isSome)] ++ (newest.map bytes16).getD (ones 2) ++
    bytes32 stamp

/-- The credit advertisement the hub's TRAIN carries (R154). -/
def LinkId.advertisement : LinkId → Byte
  | .rp _ => 8
  | .tp _ => 0

/-- A TRAIN frame of the hub (R154). -/
def trainFrame (l : LinkId) : Frame := { number := 255, kind := 0x10, payload := [LinkId.advertisement l] }

/-- An ACK frame carrying a number. -/
def ackFrame (n : Byte) : Frame := { number := n, kind := 0x11, payload := [] }

/-- A NAK frame asking for a number. -/
def nakFrame (n : Byte) : Frame := { number := n, kind := 0x12, payload := [] }

/-- An IDLE frame carrying the next number to send. -/
def idleFrame (n : Byte) : Frame := { number := n, kind := 0x13, payload := [] }

/-- A LINK RESET frame. -/
def resetFrame : Frame := { number := 0, kind := 0x14, payload := [] }

/-- The frame of a handed link frame. -/
def Handed.frame : Handed → Frame
  | .ack255 => ackFrame 255
  | .nak n => nakFrame n

/-- Whether a handed frame is a NAK. -/
def Handed.isNak : Handed → Bool
  | .ack255 => false
  | .nak _ => true

/-! ## The hub's end of one link -/

/-- Hands a link frame for sending (R157). -/
def Link.hand (k : Link) (h : Handed) : Link := { k with handed := k.handed ++ [h] }

/-- While the link is UP and the partner is not confirmed, a NAK is not sent (R157); the ACK carrying 255 always may be. -/
def Link.maySend (k : Link) (h : Handed) : Bool := !h.isNak || (k.state = .up && k.confirmed)

/-- The handed link frames go out, in the order handed (R157); a NAK's 32 µs run from this send (R159). -/
def Link.flush (k : Link) (now : Nat) : Link :=
  let going := k.handed.filter k.maySend
  { k with
    handed := k.handed.filter fun h => !k.maySend h
    out := k.out ++ going.map Handed.frame
    nak := if going.any Handed.isNak then k.nak.map fun n => { n with deadline := some (now + Config.replayMicros) }
      else k.nak }

/-- Puts frames on the wire behind the handed link frames (R157, log entry 14). -/
def Link.emit (k : Link) (now : Nat) (frames : List Frame) : Link :=
  let k' := k.flush now
  { k' with out := k'.out ++ frames }

/-- The link can take a packet for sending (R157). -/
def Link.canTake (k : Link) : Bool :=
  k.state = .up && k.confirmed && !k.resetPending && k.replay.length < Config.replayDepth

/-- The send of a packet frame (R157): it takes the next number and joins the replay buffer. -/
def Link.sendPacket (k : Link) (now : Nat) (kind : PacketKind) (payload : List Byte) : Link :=
  let f : Frame := { number := k.nextNumber, kind := packetCode kind, payload }
  { k.emit now [f] with nextNumber := k.nextNumber + 1, replay := k.replay ++ [f] }

/-- What every leaving of UP and every LINK RESET does to a link (R154, R155, R156, R162): it goes to DOWN, the replay
buffer is emptied, and a NAK outstanding and the silence deadline are discarded. A NAK handed for the outstanding one
and an ACK still due go with them; a handed ACK carrying 255 stays (log entry 14). -/
def Link.goDown (k : Link) : Link :=
  { k with
    state := .down
    ownAcked := false
    replay := []
    nak := none
    silence := none
    handed := k.handed.filter fun h => !h.isNak
    ackDue := false }

/-- A LINK RESET is handed to the link (R155): nothing while it is DOWN, and one pending at most. -/
def Link.handReset (k : Link) : Link := if k.state = .down then k else { k with resetPending := true }

/-- The link reaches UP (R154). -/
def Link.goUp (k : Link) (now : Nat) : Link :=
  { k with
    state := .up
    nextNumber := 0
    expected := 0
    replay := []
    replayCount := 0
    nak := none
    confirmed := false
    silence := some (now + Config.silenceMicros)
    ackDue := false }

/-- A frame taken while UP restarts the silence deadline (R158, R161). -/
def Link.heard (k : Link) (now : Nat) : Link := { k with silence := some (now + Config.silenceMicros) }

/-- The replay buffer from frame `n` on. -/
def Link.fromFrame (k : Link) (n : Byte) : List Frame := k.replay.dropWhile fun f => f.number ≠ n

/-- Whether frame `n` stands in the replay buffer (R160). -/
def Link.buffers (k : Link) (n : Byte) : Bool := k.replay.any fun f => f.number = n

/-- An ACK taken while UP (R160). -/
def Link.acked (k : Link) (n : Byte) : Link :=
  if k.buffers n then { k with replay := (k.fromFrame n).drop 1, replayCount := 0 } else k

/-- The replay count once every frame older than `n` has left the buffer (R160). -/
def Link.countAt (k : Link) (n : Byte) : Nat :=
  if (k.fromFrame n).length < k.replay.length then 0 else k.replayCount

/-- The replay of R160: the frames from `n` on are sent again, unless a pending LINK RESET, which goes out first, is
about to empty the buffer (R155, log entry 15). -/
def Link.replayFrom (k : Link) (now : Nat) (n : Byte) : Link :=
  let k' : Link := { k with replay := k.fromFrame n, replayCount := k.countAt n + 1 }
  if k.resetPending then k' else k'.emit now (k.fromFrame n)

/-- Hands a link event to the link `l` of the state. -/
def State.modLink (s : State) (l : LinkId) (f : Link → Link) : State := s.setLink l (f (s.link l))

/-- Sends a packet on link `l` (R157). -/
def State.sendPacket (s : State) (l : LinkId) (kind : PacketKind) (payload : List Byte) : State :=
  s.modLink l fun k => k.sendPacket s.clock kind payload

end Sys2Proof.Machine
end

