-- ==== Sys2Proof/Machine/Cutoff.lean ====
section
/-! DEFINITION. The shared operations that cut off: the ending of tracker entries, the fence of a target (R121, R122),
the containment of the hub and the STORAGE CHECK (R129, R130, R133), and the losses of a link at its port unit (R31, R120,
R148). -/

namespace Sys2Proof.Machine

/-! ## Ending entries -/

/-- The answers the ending of the selected entries places for port `p`, in ascending entry index (R121, R130). -/
def State.endAnswers (s : State) (sel : Entry → Bool) (status : Status) (p : RP) : List Answer :=
  (s.entries.toList.filter fun e => sel e && e.live && !e.lost && e.port = p).map fun e => e.hubAnswer status

/-- The number of answers the ending of the selected entries places: the first count of a detail (R121, R130). -/
def State.endCount (s : State) (sel : Entry → Bool) : Nat :=
  s.entries.toList.countP fun e => sel e && e.live && !e.lost

/-- Ends every selected entry that is not FREE: the live ones with an answer unless requester lost is set, the ABANDONED
ones without (R121 steps 1 and 2, R130 steps 3 and 4). -/
def State.endEntries (s : State) (sel : Entry → Bool) (status : Status) : State :=
  { s with
    entries := tab fun i => if sel (look s.entries i) && (look s.entries i).state ≠ .free then (look s.entries i).freed
      else look s.entries i
    ports := tab fun p => { look s.ports p with responses := (look s.ports p).responses ++ s.endAnswers sel status p } }

/-! ## The fence -/

/-- Whether a place of an egress queue is a POSTED WRITE. -/
def Place.isPosted : Place → Bool
  | .entry _ _ => false
  | .posted _ _ _ _ => true

/-- The entries of a target. -/
def ofTarget (t : TP) (e : Entry) : Bool := e.target = some t

/-- What a fence of target `t` cuts off (R82, R121 step 7): answers placed, posted writes discarded. -/
def State.fenceDetail (s : State) (t : TP) : Nat × Nat :=
  (s.endCount (ofTarget t), (s.target t).egress.countP Place.isPosted)

/-- A target port unit after its target is cut off: FENCED, without egress places, credits or abandoned entries. -/
def TargetPort.cutOff (u : TargetPort) : TargetPort :=
  { u with state := .fenced, egress := [], credits := 0, abandon := 0 }

/-- The fence of an OPEN target (R121); the detail of step 7 stands in the causing record (`State.fenceFor`). -/
def State.fence (s : State) (t : TP) : State :=
  let s₁ := s.endEntries (ofTarget t) .fenced
  let s₂ := s₁.setTarget t (s₁.target t).cutOff
  let s₃ := s₂.modLink (.tp t) Link.handReset
  (s₃.raise (.tgt t) .fence).offerAll

/-- A cause reported with the detail of its fence, and the fence (R82, R122). -/
def State.fenceFor (s : State) (t : TP) (r : Report) : State :=
  (s.report (.tgt t) { r with target := some t, detail := some (s.fenceDetail t) }).fence t

/-! ## Containment -/

/-- The STORAGE CHECK report of a parity failure. -/
def storageReport (r : Report) (detail : Nat × Nat) : Report :=
  { r with kind := .storageCheck, severity := .fatal, detail := some detail }

/-- Containment (R130). -/
def State.contain (s : State) (r : Report) : State :=
  let s₁ := s.report .hub (storageReport r (s.endCount fun _ => true, 0))
  let s₂ := ({ s₁ with hub := .contained }).endEntries (fun _ => true) .hubFault
  let s₃ : State := { s₂ with
    targets := tab fun t => (look s₂.targets t).cutOff
    links := tab fun i => if 4 ≤ i.val then (look s₂.links i).handReset else look s₂.links i }
  (List.finRange 6).foldl (fun x t => if (s.target t).state = .opened then x.raise (.tgt t) .fence else x)
    (s₃.raise .hub .contain)

/-- A STORAGE CHECK is reported (R129): containment while NORMAL (R130), a record alone while CONTAINED (R133). -/
def State.storageCheck (s : State) (r : Report) : State :=
  match s.hub with
  | .normal => s.contain r
  | .contained => s.report .hub (storageReport r (0, 0))

/-! ## Link losses at the port units -/

/-- Whether a requester link loss costs the master something: an item or an answer discarded, or an entry marked
(R148 step 6). -/
def State.lossCosts (s : State) (p : RP) : Bool :=
  !(s.port p).ingress.isEmpty || !(s.port p).responses.isEmpty ||
    s.entries.toList.any fun e => e.state ≠ .free && e.port = p

/-- The unit of a requester port after a loss (R148 steps 2 to 4). -/
def RequesterPort.emptied (r : RequesterPort) : RequesterPort :=
  { r with
    ingress := []
    responses := []
    due := 0
    alerts := Vector.replicate 11 Reasons.empty
    snapshot := none
    outcome := none
    offerDue := false }

/-- The claim is released without a commit (R29, R30, R31). -/
def State.dropClaim (s : State) : State := { s with claim := none }

/-- The holder of the edit claim (R19). -/
def State.holder (s : State) : Option RP := s.claim.map Claim.holder

/-- Requester lost is set on every non-FREE entry of port `p` (R39). -/
def State.markLost (s : State) (p : RP) : State :=
  { s with
    entries := tab fun i =>
      if (look s.entries i).state ≠ .free && (look s.entries i).port = p then { look s.entries i with lost := true }
      else look s.entries i }

/-- What the unit of port `p` discards at a requester link loss (R148 steps 2 to 5): its queues, credits due, pending map and
snapshot are emptied, and its entries are marked requester lost. -/
def State.discardPort (s : State) (p : RP) : State := (s.setPort p (s.port p).emptied).markLost p

/-- A requester link loss at its unit, steps 2 to 7 of R148; step 1 is the link's. -/
def State.requesterLoss (s : State) (p : RP) : State :=
  let s₃ := (s.discardPort p).report (.req p)
    { kind := .requesterLinkLoss, severity := if s.lossCosts p then .uncorrected else .corrected, port := some p }
  if s.holder = some p then
    s₃.dropClaim.report .hub { kind := .claimDropped, severity := .corrected, port := some p }
  else s₃

/-- A target link loss at its unit (R120). -/
def State.targetLoss (s : State) (t : TP) : State :=
  match (s.target t).state with
  | .opened => s.fenceFor t { kind := .targetLinkLoss, severity := .fatal }
  | .fenced => s.report (.tgt t) { kind := .targetLinkLoss, severity := .corrected, target := some t }
  | .down => s

/-- The port unit of a link takes a link loss. -/
def State.takeLoss (s : State) (l : LinkId) : State :=
  match l with
  | .rp p => s.requesterLoss p
  | .tp t => s.targetLoss t

/-- A link loss by replay failure or by silence (R162): a LINK RESET is made pending. -/
def State.loseLink (s : State) (l : LinkId) : State :=
  (s.modLink l fun k => { k.goDown with resetPending := true }).takeLoss l

/-- A link loss by a LINK RESET of the partner (R156): a LINK RESET pending is discarded. -/
def State.resetByPartner (s : State) (l : LinkId) : State :=
  (s.modLink l fun k => { k.goDown with resetPending := false }).takeLoss l

end Sys2Proof.Machine
end

