-- ==== Sys2Proof/Machine/Decoder.lean ====
section
/-! DEFINITION. The decode unit (R2, R3, R7, R9 to R14) and the form of a delivered REQUEST (R139 to R141). -/

namespace Sys2Proof.Machine

/-! ## Decode -/

/-- The direction a request takes through a route (R11, R12): POSTED WRITE is a write. -/
inductive Access where
  | read | write | swap
  deriving DecidableEq, Repr

/-- The direction of a request that holds an entry. -/
def MemKind.access : MemKind → Access
  | .read => .read
  | .write => .write
  | .swap => .swap

/-- The outcome of a decode (section 1.4); DENIED carries the chosen target (R16). -/
inductive Decoded where
  | success (t : TP) (cls : Fin 4)
  | noRoute
  | denied (t : TP)
  | atomicRefused
  | fenced
  deriving DecidableEq, Repr

/-- The parity checks a decode reads: all sixteen windows, valid or not, and the default route (R7). -/
def Table.sound (t : Table) : Bool := t.windows.toList.all Window.parity && t.route.parity

/-- The routing fields of a window. -/
def Window.routing (w : Window) : Routing :=
  { readTarget := w.readTarget, writeTarget := w.writeTarget, readRights := w.readRights,
    writeRights := w.writeRights, atomic := w.atomic, cls := w.cls }

/-- The default route as a route: both directions, all ports, class 0, no atomic (R3, R10). -/
def DefaultRoute.routing (d : DefaultRoute) : Routing :=
  { readTarget := d.target, writeTarget := d.target, readRights := 0xF, writeRights := 0xF, atomic := false, cls := 0 }

/-- The page of a byte (section 1.3). -/
abbrev pageOf (byte : Nat) : Nat := byte / 4096

/-- Whether a valid window contains a page (R2). -/
def Window.contains (w : Window) (page : Nat) : Bool := w.base.toNat ≤ page && page ≤ w.limit.toNat

/-- Step 1 of decode: the lowest-numbered valid window that contains the first byte's page, or else the default route;
none is NO ROUTE (R9, R10). -/
def Table.locate (t : Table) (address : Address) (length : Nat) : Option Routing :=
  let first := pageOf address.toNat
  let last := pageOf (address.toNat + length - 1)
  match t.windows.toList.find? fun w => w.valid && w.contains first with
  | some w => if w.contains last then some w.routing else none
  | none =>
    if t.route.ceiling ≤ first || t.route.ceiling ≤ last || t.route.target = none then none else some t.route.routing

/-- Steps 2 and 3 of decode for a target and the rights already chosen by direction (R11, R13). -/
def State.choose (s : State) (target : Option TP) (allowed : Bool) (cls : Fin 4) : Decoded :=
  match target with
  | none => .noRoute
  | some t =>
    if !allowed then .denied t else if (s.target t).state = .opened then .success t cls else .fenced

/-- The direction step of decode (R11, R12). Bit `n` of a set of rights is RP`n` (log entry 37). -/
def State.direct (s : State) (p : RP) (a : Access) (r : Routing) : Decoded :=
  match a with
  | .read => s.choose r.readTarget (r.readRights.getLsbD p.val) r.cls
  | .write => s.choose r.writeTarget (r.writeRights.getLsbD p.val) r.cls
  | .swap =>
    if !r.atomic || r.readTarget ≠ r.writeTarget || r.readTarget = none then .atomicRefused
    else s.choose r.readTarget (r.readRights.getLsbD p.val && r.writeRights.getLsbD p.val) r.cls

/-- Decode (R9 to R14) against the active table. -/
def State.decode (s : State) (p : RP) (a : Access) (address : Address) (length : Nat) : Decoded :=
  match s.active.locate address length with
  | none => .noRoute
  | some r => s.direct p a r

/-- The answer status of a failing decode (R15). -/
def Decoded.status : Decoded → Status
  | .success _ _ => .ok
  | .noRoute => .noRoute
  | .denied _ => .denied
  | .atomicRefused => .refused
  | .fenced => .fenced

/-- The report of a failing decode (R16); a FENCED outcome creates none. -/
def Decoded.report (d : Decoded) (p : RP) (tag : Option Tag) (address : Address) (version : BitVec 16) : Option Report :=
  let r (k : Kind) (t : Option TP) : Report :=
    { kind := k, severity := .uncorrected, port := some p, tag, target := t, address := some address,
      version := some version }
  match d with
  | .success _ _ => none
  | .noRoute => some (r .noRoute none)
  | .denied t => some (r .denied (some t))
  | .atomicRefused => some (r .atomicRefused none)
  | .fenced => none

/-- Reports where there is something to report. -/
def State.reportIf (s : State) (b : Bank) (r : Option Report) : State :=
  match r with
  | some r => s.report b r
  | none => s

/-! ## The form of a REQUEST -/

end Sys2Proof.Machine

namespace Sys2Proof

/-- The record number of a CONFIG request: bytes 2 and 3 of the packet, the upper bytes of the address field. -/
def RawRequest.number (r : RawRequest) : BitVec 16 := r.address.extractLsb' 24 16

/-- A request kind the hub knows (R140, section 9.6). -/
def RawRequest.known (r : RawRequest) : Bool := 1 ≤ r.kind.toNat && r.kind.toNat ≤ 6

/-- The tag, where the kind is one of the five non-posted kinds and the tag lies in 0 to 63 (R139, R140). -/
def RawRequest.legibleTag (r : RawRequest) : Option Tag :=
  if r.known && r.kind ≠ 3 then Machine.finOf 64 r.tag.toNat else none

/-- The address, or for a CONFIG request its record number, where the kind is known (R139 to R141, log entry 22). -/
def RawRequest.legibleAddress (r : RawRequest) : Option Address :=
  if r.known then some (if 5 ≤ r.kind.toNat then r.number.setWidth 40 else r.address) else none

/-- Length 1 to 64 within one 64-byte aligned block (R140). -/
def RawRequest.inBlock (r : RawRequest) : Bool :=
  1 ≤ r.length.toNat && r.length.toNat ≤ 64 && r.address.toNat % 64 + r.length.toNat ≤ 64

/-- Length 4 or 8 and an address that is a multiple of it (R140). -/
def RawRequest.aligned (r : RawRequest) : Bool :=
  (r.length = 4 || r.length = 8) && r.address.toNat % r.length.toNat = 0

/-- Data of the stated length (R140). -/
def RawRequest.carries (r : RawRequest) : Bool := r.data.length = r.length.toNat

/-- The item a request of good form joins the ingress queue as; none is MALFORMED (R140). -/
def RawRequest.item (r : RawRequest) : Option Machine.Item :=
  match r.kind.toNat with
  | 1 =>
    if r.inBlock && r.data = [] then r.legibleTag.map fun g => .mem .read g r.address r.length.toNat [] else none
  | 2 =>
    if r.inBlock && r.carries then r.legibleTag.map fun g => .mem .write g r.address r.length.toNat r.data else none
  | 3 => if r.inBlock && r.carries then some (.posted r.address r.length.toNat r.data) else none
  | 4 =>
    if r.aligned && r.carries then r.legibleTag.map fun g => .mem .swap g r.address r.length.toNat r.data else none
  | 5 => if r.length = 8 && r.data = [] then r.legibleTag.map fun g => .configRead g r.number else none
  | 6 => if r.length = 8 && r.carries then r.legibleTag.map fun g => .configWrite g r.number r.data else none
  | _ => none

end Sys2Proof

namespace Sys2Proof.Machine

/-- The tag an item of an ingress queue holds (R141). -/
def Item.tag : Item → Option Tag
  | .mem _ g _ _ _ => some g
  | .posted _ _ _ => none
  | .configRead g _ => some g
  | .configWrite g _ _ => some g
  | .refusal g => some g

/-- Whether a tag is live for a port (R141). -/
def State.tagLive (s : State) (p : RP) (g : Tag) : Bool :=
  (s.port p).ingress.any (fun i => i.tag = some g) || s.entries.toList.any (fun e => e.heldBy p && e.tag = g) ||
    (s.port p).responses.any fun a => a.tag = g

end Sys2Proof.Machine
end

