-- ==== Sys2Proof/Machine/Arrival.lean ====
section
/-! DEFINITION. What a requester port unit does with a request: its arrival (R138 to R142), the offer of a non-CONFIG head
(R8, R15 to R17), the handling of heads while CONTAINED (R131), and the answer to a refusal place (R143). -/

namespace Sys2Proof.Machine

/-- An item joins the tail of the ingress queue; becoming the head of an empty one is an offer event (R8, R142). -/
def RequesterPort.push (u : RequesterPort) (i : Item) : RequesterPort :=
  { u with ingress := u.ingress ++ [i], offerDue := u.offerDue || u.ingress.isEmpty }

/-- A REQUEST delivered on the link of port `p` (R139 to R142). -/
def State.arrive (s : State) (p : RP) (r : RawRequest) : State :=
  let u := s.port p
  let about (k : Kind) : Report :=
    { kind := k, severity := .uncorrected, port := some p, tag := r.legibleTag, address := r.legibleAddress }
  if u.reckoning = 0 then s.report (.req p) (about .creditOverrun)
  else
    let u' : RequesterPort := { u with reckoning := u.reckoning - 1 }
    match r.item with
    | none =>
      match r.legibleTag with
      | some g => (s.setPort p (u'.push (.refusal g))).report (.req p) (about .malformed)
      | none => (s.setPort p { u' with due := u.due + 1 }).report (.req p) (about .malformed)
    | some i =>
      if i.tag.any (s.tagLive p) then
        (s.setPort p { u' with due := u.due + 1 }).report (.req p) (about .duplicateTag)
      else s.setPort p (u'.push i)

/-- REQUEST_ARRIVAL (R142): packets are delivered only while the link is UP. -/
def execRequestArrival (p : RP) (r : RawRequest) (s : State) : Result :=
  .next (if (s.link (.rp p)).state = .up then s.arrive p r else s)

/-- The head of port `p` after an offer that leaves it there: the outcome is held with it (R14). -/
def State.holdOutcome (s : State) (p : RP) (outcome : Option (TP × Fin 4)) : State :=
  s.setPort p { s.port p with outcome, offerDue := false }

/-- The offer of a READ, WRITE or SWAP head (R7, R14, R15, R16, R17). -/
def State.offerMem (s : State) (p : RP) (kind : MemKind) (tag : Tag) (address : Address) (length : Nat) : State :=
  if !s.active.sound then
    let s₁ := (s.holdOutcome p none).storageCheck
      { kind := .storageCheck, severity := .fatal, port := some p, tag := some tag, address := some address }
    if s.room p then s₁.answerHead p { tag, status := .hubFault, data := hubData kind length } else s₁
  else
    match s.decode p kind.access address length with
    | .success t cls => s.holdOutcome p (some (t, cls))
    | d =>
      if s.room p then
        (s.answerHead p { tag, status := d.status, data := hubData kind length }).reportIf (.req p)
          (d.report p (some tag) address s.version)
      else s.holdOutcome p none

/-- The offer of a POSTED WRITE head (R7, R14, R15, R16). -/
def State.offerPosted (s : State) (p : RP) (address : Address) (length : Nat) : State :=
  if !s.active.sound then
    ((s.holdOutcome p none).storageCheck
      { kind := .storageCheck, severity := .fatal, port := some p, address := some address }).leaveHead p
  else
    match s.decode p .write address length with
    | .success t cls => s.holdOutcome p (some (t, cls))
    | d => (s.leaveHead p).reportIf (.req p) (d.report p none address s.version)

/-- OFFER (R8): while NORMAL, a non-CONFIG head for which an event of R8 awaits its offer is decoded. -/
def execOffer (p : RP) (s : State) : Result :=
  .next (if s.hub = .normal && (s.port p).offerDue then
    match (s.port p).ingress.head? with
    | some (.mem kind tag address length _) => s.offerMem p kind tag address length
    | some (.posted address length _) => s.offerPosted p address length
    | _ => s
  else s)

/-- CONTAINED_HEAD_HANDLING (R131): while CONTAINED, a non-CONFIG head is answered HUB FAULT when there is room, or
discarded if posted. -/
def execContainedHeadHandling (p : RP) (s : State) : Result :=
  .next (if s.hub = .contained then
    match (s.port p).ingress.head? with
    | some (.mem kind tag _ length _) =>
      if s.room p then s.answerHead p { tag, status := .hubFault, data := hubData kind length } else s
    | some (.posted _ _ _) => s.leaveHead p
    | _ => s
  else s)

/-- REFUSAL_PLACE_ANSWER (R143): a refusal place at the head is answered REFUSED when there is room. -/
def execRefusalPlaceAnswer (p : RP) (s : State) : Result :=
  .next (match (s.port p).ingress.head? with
    | some (.refusal tag) =>
      if s.room p then s.answerHead p { tag, status := .refused, data := [] } else s
    | _ => s)

end Sys2Proof.Machine
end

