-- ==== Sys2Proof/Machine/Outbound.lean ====
section
/-! DEFINITION. The outbound side of a requester port: the outbound arbiter (R146) and the sends of a CREDIT, a RESPONSE
(R147) and an ALERT (R112). -/

namespace Sys2Proof.Machine

/-- What the outbound arbiter of a port sends next. -/
inductive Outbound where
  | credit | response | alert
  deriving DecidableEq, Repr

/-- The lowest bank with an entry in the pending map of port `p` (R112). -/
def RequesterPort.lowestAlert (u : RequesterPort) : Option (Fin 11) :=
  (List.finRange 11).find? fun i => !(look u.alerts i).isEmpty

/-- What waits at port `p`, and which of it goes next (R146 items 1 to 3). -/
def RequesterPort.next (u : RequesterPort) : Option Outbound :=
  if 0 < u.due then some .credit
  else
    match u.responses.isEmpty, u.lowestAlert.isSome with
    | false, true => some (if u.lastKind = .alert then .response else .alert)
    | false, false => some .response
    | true, true => some .alert
    | true, false => none

/-- The outbound arbiter takes a send while the link can take a packet (R146). -/
def State.outbound (s : State) (p : RP) : Option Outbound :=
  if (s.link (.rp p)).canTake then (s.port p).next else none

/-- CREDIT_SEND (R138, R146): one CREDIT packet carries all credits due. -/
def execCreditSend (p : RP) (s : State) : Result :=
  .next (match s.outbound p with
    | some .credit =>
      let u := s.port p
      (s.setPort p { u with reckoning := u.reckoning + u.due, due := 0 }).sendPacket (.rp p) .credit [byteOf u.due]
    | _ => s)

/-- RESPONSE_SEND (R146, R147): the fall in occupancy is an offer event of the port (R8). -/
def execResponseSend (p : RP) (s : State) : Result :=
  .next (match s.outbound p with
    | some .response =>
      let u := s.port p
      match u.responses with
      | a :: rest =>
        (s.setPort p { u with responses := rest, lastKind := .response, offerDue := true }).sendPacket (.rp p) .response
          a.payload
      | [] => s
    | _ => s)

/-- The sequence of the newest record a bank holds (R112). -/
def BankState.newest (b : BankState) : Option (BitVec 16) := b.records.getLast?.map Rec.sequence

/-- ALERT_SEND (R112, R146): the pending map's entry for the lowest bank is removed and sent. -/
def execAlertSend (p : RP) (s : State) : Result :=
  .next (match s.outbound p with
    | some .alert =>
      let u := s.port p
      match u.lowestAlert with
      | some i =>
        (s.setPort p { u with alerts := upd u.alerts i Reasons.empty, lastKind := .alert }).sendPacket (.rp p) .alert
          (alertPayload (Bank.ofIdx i) (look u.alerts i) (look s.banks i).newest s.stamp)
      | none => s
    | _ => s)

end Sys2Proof.Machine
end

