-- ==== Sys2Proof/Machine/Tracker.lean ====
section
/-! DEFINITION. The tracker arbiter (R42 to R45), the target port units' sends and credits (R48 to R50), response intake
(R51 to R58, R164) and the expiries of the deadline unit (R66 to R70). -/

namespace Sys2Proof.Machine

/-! ## Grants -/

/-- The lowest-numbered FREE entry (R44). -/
def State.firstFree (s : State) : Option (Fin 32) := (List.finRange 32).find? fun i => (s.entry i).state = .free

/-- Whether a head whose latest offer chose target `t` finds it OPEN with an egress place (R42). -/
def State.egressReady (s : State) (t : TP) : Bool :=
  (s.target t).state = .opened && (s.target t).egress.length < Config.egressDepth

/-- Whether the head of port `p` is ready (R42); none is while CONTAINED (R132). -/
def State.ready (s : State) (p : RP) : Bool :=
  s.hub = .normal &&
    match (s.port p).outcome, (s.port p).ingress.head? with
    | some (t, _), some (.mem _ _ _ _ _) =>
      s.egressReady t && s.firstFree.isSome && s.heldCount p < (s.port p).cap && s.room p
    | some (t, _), some (.posted _ _ _) => s.egressReady t
    | _, _ => false

/-- The port the arbiter grants: the first ready head after the last granted port (R43). -/
def State.grantee (s : State) : Option RP :=
  [s.lastGranted + 1, s.lastGranted + 2, s.lastGranted + 3, s.lastGranted].find? s.ready

/-- The entry a grant fills (R37, R44). -/
def Entry.granted (e : Entry) (p : RP) (t : TP) (cls : Fin 4) (kind : MemKind) (tag : Tag) (address : Address)
    (length : Nat) : Entry :=
  { state := .queued, port := p, tag, kind, target := some t, generation := e.generation + 1, address, length, cls,
    lost := false, deadline := none, parity := true }

/-- A place joins the tail of the egress queue of target `t` (R48). -/
def State.enqueue (s : State) (t : TP) (x : Place) : State :=
  s.setTarget t { s.target t with egress := (s.target t).egress ++ [x] }

/-- GRANT (R43, R44): the arbiter's choice is a READ, WRITE or SWAP head. -/
def execGrant (s : State) : Result :=
  .next (match s.grantee with
    | some p =>
      match (s.port p).outcome, (s.port p).ingress.head?, s.firstFree with
      | some (t, cls), some (.mem kind tag address length data), some i =>
        let s₁ := s.setEntry i ((s.entry i).granted p t cls kind tag address length)
        let s₂ := (s₁.enqueue t (.entry i data)).leaveHead p
        { s₂ with lastGranted := p }
      | _, _, _ => s
    | none => s)

/-- POSTED_WRITE_GRANT (R43, R45): the arbiter's choice is a POSTED WRITE head. -/
def execPostedWriteGrant (s : State) : Result :=
  .next (match s.grantee with
    | some p =>
      match (s.port p).outcome, (s.port p).ingress.head? with
      | some (t, _), some (.posted address length data) =>
        let s₁ := (s.enqueue t (.posted address length data p)).leaveHead p
        { s₁ with lastGranted := p }
      | _, _ => s
    | none => s)

/-! ## Sends and credits -/

/-- Whether target `t` may be sent the head of its egress queue, if it has one (R50, R157). -/
def State.maySend (s : State) (t : TP) : Bool :=
  (s.target t).state = .opened && 0 < (s.target t).credits && (s.link (.tp t)).canTake

/-- The head place leaves the egress queue and a credit is spent (R49, R50); a freed place is an offer event (R8). -/
def State.spend (s : State) (t : TP) : State :=
  (s.setTarget t { s.target t with
    egress := (s.target t).egress.tail
    credits := (s.target t).credits - 1 }).offerAll

/-- The report of a parity failure found in entry `i` (R40). -/
def State.entryFault (s : State) (i : Fin 32) : State :=
  s.storageCheck { kind := .storageCheck, severity := .fatal, entry := some (i, (s.entry i).generation) }

/-- SEND (R50): the entry at the head of the egress queue goes out, becomes ISSUED and starts its stage 1 deadline. -/
def execSend (t : TP) (s : State) : Result :=
  .next (if s.maySend t then
    match (s.target t).egress.head? with
    | some (.entry i data) =>
      let e := s.entry i
      if !e.parity then s.entryFault i
      else
        let s₁ := s.setEntry i { e with state := .issued, deadline := some (s.clock + s.classMicros e.cls) }
        (s₁.sendPacket (.tp t) .request (e.requestPayload i data)).spend t
    | _ => s
  else s)

/-- POSTED_WRITE_SEND (R50). -/
def execPostedWriteSend (t : TP) (s : State) : Result :=
  .next (if s.maySend t then
    match (s.target t).egress.head? with
    | some (.posted address length data origin) =>
      (s.sendPacket (.tp t) .request (postedPayload address length data origin)).spend t
    | _ => s
  else s)

/-- A PROTOCOL breach that names no entry: the record carries the target port alone (R49, R164). -/
def State.breach (s : State) (t : TP) : State := s.fenceFor t { kind := .protocol, severity := .fatal }

/-- A credit return of `n` (R49): a return that would raise the count above the latest advertisement is a breach. -/
def State.takeCredit (s : State) (t : TP) (n : Nat) : State :=
  if (s.target t).state = .opened then
    if 0 < n ∧ (s.target t).advertisement < (s.target t).credits + n then s.breach t
    else s.setTarget t { s.target t with credits := (s.target t).credits + n }
  else s

/-- A CREDIT packet of target `t` (R49, R164). -/
def State.takeCreditPacket (s : State) (t : TP) (amount : Byte) : State :=
  if (s.target t).state = .opened then
    if 1 ≤ amount.toNat ∧ amount.toNat ≤ 16 then s.takeCredit t amount.toNat else s.breach t
  else s

/-- CREDIT_RETURN (R49): packets are delivered only while the link is UP. -/
def execCreditReturn (t : TP) (amount : Byte) (s : State) : Result :=
  .next (if (s.link (.tp t)).state = .up then s.takeCreditPacket t amount else s)

/-! ## Response intake -/

/-- The statuses of a RESPONSE from a target (section 9.6). -/
inductive TargetStatus where
  | ok | corrected | error | poison
  deriving DecidableEq, Repr

/-- The status of a status code. -/
def TargetStatus.ofCode (n : Nat) : Option TargetStatus :=
  match n with
  | 0 => some .ok
  | 1 => some .corrected
  | 2 => some .error
  | 3 => some .poison
  | _ => none

/-- The answer status a target status maps to (R53). -/
def TargetStatus.answer : TargetStatus → Status
  | .ok => .ok
  | .corrected => .ok
  | .error => .targetError
  | .poison => .targetError

/-- A RESPONSE whose form passes R164: index, generation, status, credit return, data. -/
structure Response where
  index : Fin 32
  generation : Fin 4
  status : TargetStatus
  credit : Nat
  data : List Byte
  deriving DecidableEq, Repr

/-- The form check of R164. -/
def responseOf (r : RawResponse) : Option Response := do
  let index ← finOf 32 r.index.toNat
  let generation ← finOf 4 r.generation.toNat
  let status ← TargetStatus.ofCode r.status.toNat
  let credit ← inRange 0 16 r.credit.toNat
  return { index, generation, status, credit, data := r.data }

/-- A report about entry `i` with all its fields (R54, R67). -/
def Entry.about (e : Entry) (i : Fin 32) (k : Kind) (severity : Severity) : Report :=
  { kind := k, severity, port := some e.port, tag := some e.tag, target := e.target, entry := some (i, e.generation),
    address := some e.address }

/-- The data check of a matched response (R52). -/
def Entry.dataFits (e : Entry) (data : List Byte) : Bool :=
  match e.kind with
  | .write => data = []
  | .read => data.length = e.length
  | .swap => data.length = e.length

/-- The data of a completion's answer (R53). -/
def Entry.answerData (e : Entry) (r : Response) : List Byte :=
  match r.status, e.kind with
  | _, .write => []
  | .ok, _ => r.data
  | .corrected, _ => r.data
  | .error, k => hubData k e.length
  | .poison, k => hubData k e.length

/-- Places the answer of an entry unless requester lost is set (R39, R53). -/
def State.placeFor (s : State) (e : Entry) (a : Answer) : State := if e.lost then s else s.place e.port a

/-- The completion of entry `i` (R53, R54, R55). -/
def State.complete (s : State) (t : TP) (i : Fin 32) (r : Response) : State :=
  let e := s.entry i
  let s₁ := (s.placeFor e { tag := e.tag, status := r.status.answer, data := e.answerData r }).freeEntry i
  match r.status with
  | .ok => s₁
  | .corrected => s₁.report (.tgt t) (e.about i .targetCorrected .corrected)
  | .error => s₁.report (.tgt t) (e.about i .targetError .uncorrected)
  | .poison => s₁.fenceFor t (e.about i .targetPoison .fatal)

/-- A target has one ABANDONED entry less (R69). -/
def State.lowerAbandon (s : State) (t : TP) : State :=
  s.setTarget t { s.target t with abandon := (s.target t).abandon - 1 }

/-- A late response for the ABANDONED entry `i` (R56). -/
def State.lateResponse (s : State) (t : TP) (i : Fin 32) : State :=
  ((s.freeEntry i).lowerAbandon t).report (.tgt t) ((s.entry i).about i .lateResponse .corrected)

/-- A STALE response (R57). -/
def State.staleResponse (s : State) (t : TP) (r : Response) : State :=
  s.report (.tgt t)
    { kind := .staleResponse, severity := .corrected, target := some t, entry := some (r.index, r.generation) }

/-- A PROTOCOL breach of a response that names an entry (R58); `e` is the entry where the response was matched to it. -/
def State.protocolResponse (s : State) (t : TP) (r : Response) (e : Option Entry) : State :=
  s.fenceFor t
    { kind := .protocol, severity := .fatal, entry := some (r.index, r.generation), port := e.map Entry.port,
      tag := e.map Entry.tag, address := e.map Entry.address }

/-- The intake of a response of good form for an OPEN target, once its credit return is taken (R51 to R58). -/
def State.intake (s : State) (t : TP) (r : Response) : State :=
  let e := s.entry r.index
  if !e.parity then s.entryFault r.index
  else if e.target = some t then
    if e.state = .free || e.generation ≠ r.generation then s.staleResponse t r
    else if !e.dataFits r.data then s.protocolResponse t r (some e)
    else
      match e.state with
      | .issued => s.complete t r.index r
      | .late => s.complete t r.index r
      | .abandoned => s.lateResponse t r.index
      | .queued => s.protocolResponse t r (some e)
      | .free => s
  else s.protocolResponse t r none

/-- A RESPONSE packet of target `t` (R51, R164): dropped unless the target is OPEN, and dropped too where its credit
return has just fenced it. -/
def State.takeResponse (s : State) (t : TP) (r : RawResponse) : State :=
  if (s.target t).state = .opened then
    match responseOf r with
    | none => s.breach t
    | some r =>
      let s₁ := s.takeCredit t r.credit
      if (s₁.target t).state = .opened then s₁.intake t r else s₁
  else s

/-- RESPONSE_INTAKE (R51): packets are delivered only while the link is UP. -/
def execResponseIntake (t : TP) (r : RawResponse) (s : State) : Result :=
  .next (if (s.link (.tp t)).state = .up then s.takeResponse t r else s)

/-! ## Expiries -/

/-- STAGE_1_EXPIRY (R66, R67). -/
def execStage1Expiry (i : Fin 32) (s : State) : Result :=
  let e := s.entry i
  .next (if e.state = .issued && s.reached e.deadline then
    if !e.parity then s.entryFault i
    else
      match e.target with
      | some t =>
        (s.setEntry i { e with state := .late, deadline := some (s.clock + s.classMicros e.cls) }).report (.tgt t)
          (e.about i .slowResponse .corrected)
      | none => s
  else s)

/-- STAGE_2_EXPIRY (R66, R68, R69). The fall of the held count is an offer event of the port (R8). -/
def execStage2Expiry (i : Fin 32) (s : State) : Result :=
  let e := s.entry i
  .next (if e.state = .late && s.reached e.deadline then
    if !e.parity then s.entryFault i
    else
      match e.target with
      | some t =>
        let s₁ := s.setEntry i { e with state := .abandoned, deadline := some (s.clock + micros s.reclaimMs) }
        let s₂ := (s₁.placeFor e (e.hubAnswer .timedOut)).offerPort e.port
        let s₃ := s₂.setTarget t { s₂.target t with abandon := (s₂.target t).abandon + 1 }
        let s₄ := s₃.report (.tgt t) (e.about i .timedOut .uncorrected)
        if (s₄.target t).fenceLimit ≤ (s₄.target t).abandon then s₄.fenceFor t (e.about i .abandonLimit .fatal) else s₄
      | none => s
  else s)

/-- RECLAIM_EXPIRY (R66, R70). -/
def execReclaimExpiry (i : Fin 32) (s : State) : Result :=
  let e := s.entry i
  .next (if e.state = .abandoned && s.reached e.deadline then
    if !e.parity then s.entryFault i
    else
      match e.target with
      | some t => (s.freeEntry i).lowerAbandon t
      | none => s
  else s)

end Sys2Proof.Machine
end

