-- ==== Sys2Proof/Machine/Links.lean ====
section
/-! DEFINITION. The hub link (R152 to R164): training, the frames taken, packets delivered, and the link frames sent. -/

namespace Sys2Proof.Machine

/-! ## Link UP and training -/

/-- The port unit takes link UP: a requester port unit with the values of R137 and R150 (reckoning 8, queues and pending map
empty), a target port unit under R119. R137 says that the queues are already empty at that event; where a LINK RESET of the hub
took the link out of UP they are not, and they are emptied here (R150), which is a DESIGN CHOICE (log entry 20, unsafe). A target
that is not DOWN, or a hub that is CONTAINED, leaves the target's state and credits as they are; for an OPEN target, which some
runs reach, that is a DESIGN CHOICE (log entry 19, unsafe). -/
def State.takeUp (s : State) (l : LinkId) : State :=
  match l with
  | .rp p =>
    s.setPort p { (s.port p).emptied with
      snapshot := (s.port p).snapshot, reckoning := Config.ingressDepth, lastKind := .alert }
  | .tp t =>
    if (s.target t).state = .down && s.hub = .normal then
      (s.setTarget t { s.target t with state := .opened, credits := (s.target t).advertisement }).offerAll
    else s

/-- The link reaches UP (R154). -/
def State.linkUp (s : State) (l : LinkId) : State := (s.modLink l fun k => k.goUp s.clock).takeUp l

/-- A target's advertisement is stored whatever its state is; a master's is not read (R119, R123, R154). -/
def State.storeAdvertisement (s : State) (l : LinkId) (advertisement : Byte) : State :=
  match l with
  | .rp _ => s
  | .tp t => s.setTarget t { s.target t with advertisement := advertisement.toNat }

/-- A TRAIN from a target whose advertisement lies outside 1 to 16 (R154). -/
def badTrain (l : LinkId) (advertisement : Byte) : Bool :=
  match l with
  | .rp _ => false
  | .tp _ => advertisement.toNat < 1 || 16 < advertisement.toNat

/-- A TRAIN taken while DOWN or TRAINING (R154). -/
def State.trainTaken (s : State) (l : LinkId) (advertisement : Byte) : State :=
  if badTrain l advertisement then s
  else
    let s₁ := (s.modLink l fun k => { k.hand .ack255 with state := .training }).storeAdvertisement l advertisement
    if (s.link l).ownAcked then s₁.linkUp l else s₁

/-- TRAIN_RECEIVED (R154, R156). -/
def execTrainReceived (l : LinkId) (advertisement : Byte) (s : State) : Result :=
  .next (match (s.link l).state with
    | .down => s.trainTaken l advertisement
    | .training => s.trainTaken l advertisement
    | .up =>
      if (s.link l).confirmed then (s.resetByPartner l).trainTaken l advertisement
      else
        let s₁ := s.modLink l fun k => k.heard s.clock
        if badTrain l advertisement then s₁
        else (s₁.modLink l fun k => k.hand .ack255).storeAdvertisement l advertisement)

/-- A good ACK frame taken (R154, R160). -/
def State.takeAck (s : State) (l : LinkId) (n : Byte) : State :=
  match (s.link l).state with
  | .down => if n = 255 then s.modLink l fun k => { k with ownAcked := true } else s
  | .training =>
    if n = 255 then (s.modLink l fun k => { k with ownAcked := true }).linkUp l else s
  | .up => s.modLink l fun k => (k.heard s.clock).acked n

/-- ACK_255_RECEIVED (R154); while UP it is an ACK like any other (R158, log entry 29). -/
def execAck255Received (l : LinkId) (s : State) : Result := .next (s.takeAck l 255)

/-- ACK_RECEIVED (R160). -/
def execAckReceived (l : LinkId) (n : Byte) (s : State) : Result := .next (s.takeAck l n)

/-- LINK_RESET_RECEIVED (R154, R156). -/
def execLinkResetReceived (l : LinkId) (s : State) : Result :=
  .next (match (s.link l).state with
    | .down => s
    | .training => s.modLink l fun k => { k with state := .down, ownAcked := false }
    | .up => s.resetByPartner l)

/-! ## Retries -/

/-- A LINK RETRY record in the bank of the link's port (R83, R159, R160). -/
def State.reportRetry (s : State) (l : LinkId) : State :=
  match l with
  | .rp p => s.report (.req p) { kind := .linkRetry, severity := .corrected, port := some p }
  | .tp t => s.report (.tgt t) { kind := .linkRetry, severity := .corrected, target := some t }

/-- The NAK rule for the expected number, but for a CRC failure on an outstanding NAK (R159). -/
def State.nakRule (s : State) (l : LinkId) : State :=
  match (s.link l).nak with
  | none =>
    (s.modLink l fun k =>
      { k.hand (.nak k.expected) with nak := some { number := k.expected, count := 1, deadline := none } }).reportRetry l
  | some _ => s

/-- A failed replay of the outstanding NAK `n` (R159). -/
def State.failedReplay (s : State) (l : LinkId) (n : Nak) : State :=
  if n.count < 3 then
    (s.modLink l fun k => { k.hand (.nak n.number) with nak := some { n with count := n.count + 1 } }).reportRetry l
  else s.loseLink l

/-- A frame with a CRC failure, or taken as one (R153, R154, R158, R159). -/
def State.takeCrcFailure (s : State) (l : LinkId) : State :=
  match (s.link l).state with
  | .down => s
  | .training => s
  | .up =>
    let s₁ := s.modLink l fun k => k.heard s.clock
    match (s.link l).nak with
    | some n => s₁.failedReplay l n
    | none => s₁.nakRule l

/-- CRC_FAILURE_RECEIVED (R158). -/
def execCrcFailureReceived (l : LinkId) (s : State) : Result := .next (s.takeCrcFailure l)

/-! ## Packets -/

/-- A REQUEST's payload by its places (section 9.6). -/
def requestOf (payload : List Byte) : RawRequest :=
  { kind := byteAt payload 0, tag := byteAt payload 1, address := be40 payload 2, length := byteAt payload 7,
    data := payload.drop 8 }

/-- A request whose kind is none of the six: how a RESPONSE, CREDIT or ALERT from a master is taken (R163). -/
def foreignRequest : RawRequest := { kind := 0, tag := 0, address := 0, length := 0, data := [] }

/-- A RESPONSE's payload by its places (section 9.6). -/
def rawResponseOf (payload : List Byte) : RawResponse :=
  { index := byteAt payload 0, generation := byteAt payload 1, status := byteAt payload 2, credit := byteAt payload 3,
    data := payload.drop 4 }

/-- A packet delivered by link `l` is handed to its port unit (R163, R164). -/
def State.deliver (s : State) (l : LinkId) (kind : PacketKind) (payload : List Byte) : State :=
  match l, kind with
  | .rp p, .request => s.arrive p (requestOf payload)
  | .rp p, _ => s.arrive p foreignRequest
  | .tp t, .response => s.takeResponse t (rawResponseOf payload)
  | .tp t, .credit => s.takeCreditPacket t (byteAt payload 0)
  | .tp t, _ => if (s.target t).state = .opened then s.breach t else s

/-- The shortest payload a packet frame may carry on a link (R153). -/
def fixedPart (l : LinkId) (kind : PacketKind) : Nat :=
  match l, kind with
  | .rp _, .request => 8
  | .tp _, .response => 4
  | .tp _, .credit => 1
  | _, _ => 0

/-- Whether a packet frame of good CRC is a good frame (R153). -/
def wellFramed (l : LinkId) (kind : PacketKind) (payload : List Byte) : Bool :=
  fixedPart l kind ≤ payload.length && payload.length ≤ Config.maxPayload

/-- A good packet frame taken (R154, R157, R158): delivered when numbered as expected, a gap when it lies 1 to 64
ahead, and otherwise a duplicate. -/
def State.takePacketFrame (s : State) (l : LinkId) (number : Byte) (kind : PacketKind) (payload : List Byte) : State :=
  match (s.link l).state with
  | .down => s
  | .training => s
  | .up =>
    let s₁ := s.modLink l fun k => { k.heard s.clock with confirmed := true }
    let ahead := (number - (s.link l).expected).toNat
    if ahead = 0 then
      (s₁.modLink l fun k =>
        { k with expected := k.expected + 1, nak := k.nak.filter fun n => n.number ≠ number, ackDue := true }).deliver l
        kind payload
    else if ahead ≤ 64 then s₁.nakRule l
    else s₁

/-- PACKET_FRAME_RECEIVED (R153, R158). -/
def execPacketFrameReceived (l : LinkId) (number : Byte) (kind : PacketKind) (payload : List Byte) (s : State) : Result :=
  .next (if wellFramed l kind payload then s.takePacketFrame l number kind payload else s.takeCrcFailure l)

/-- IDLE_RECEIVED (R154, R157, R158). -/
def execIdleReceived (l : LinkId) (number : Byte) (s : State) : Result :=
  .next (match (s.link l).state with
    | .down => s
    | .training => s
    | .up =>
      let s₁ := s.modLink l fun k => { k.heard s.clock with confirmed := true }
      if number = (s.link l).expected then s₁ else s₁.nakRule l)

/-- NAK_RECEIVED (R154, R160). -/
def execNakReceived (l : LinkId) (n : Byte) (s : State) : Result :=
  .next (match (s.link l).state with
    | .down => s
    | .training => s
    | .up =>
      let k := (s.link l).heard s.clock
      if k.buffers n then
        if k.countAt n < 3 then (s.setLink l (k.replayFrom s.clock n)).reportRetry l else (s.setLink l k).loseLink l
      else if n = k.nextNumber then s.setLink l { k with replay := [], replayCount := 0 }
      else s.setLink l k)

/-! ## Link frames sent -/

/-- TRAIN_SEND (R154): while DOWN or TRAINING and no LINK RESET is pending. -/
def execTrainSend (l : LinkId) (s : State) : Result :=
  .next (if (s.link l).state ≠ .up && !(s.link l).resetPending then s.modLink l fun k => k.emit s.clock [trainFrame l]
    else s)

/-- LINK_RESET_SEND (R155): ahead of every other frame; the link goes to DOWN. That makes no record, and the port unit takes no
loss event: a requester port keeps its queues, its pending map and its entries as they stand, and an OPEN target stays OPEN
(log entry 20 says what follows of it at the next link UP). -/
def execLinkResetSend (l : LinkId) (s : State) : Result :=
  .next (if (s.link l).resetPending then
    s.modLink l fun k => { k.goDown with resetPending := false, out := k.out ++ [resetFrame] }
  else s)

/-- NAK_SEND (R157, R159): a handed NAK goes out, in the order handed. -/
def execNakSend (l : LinkId) (s : State) : Result :=
  let k := s.link l
  .next (if !k.resetPending && k.handed.any fun h => h.isNak && k.maySend h then s.setLink l (k.flush s.clock) else s)

/-- ACK_SEND (R157): a handed ACK carrying 255 goes out, or else the ACK due, which carries the number of the newest
packet frame delivered. -/
def execAckSend (l : LinkId) (s : State) : Result :=
  let k := s.link l
  .next (if k.resetPending then s
    else if k.handed.any fun h => !h.isNak then s.setLink l (k.flush s.clock)
    else if k.state = .up && k.ackDue then
      s.setLink l { k.emit s.clock [ackFrame (k.expected - 1)] with ackDue := false }
    else s)

/-- Whether a packet waits that link `l` would be given (R50, R146). -/
def State.packetWaits (s : State) (l : LinkId) : Bool :=
  match l with
  | .rp p => (s.port p).next.isSome
  | .tp t => (s.target t).state = .opened && 0 < (s.target t).credits && !(s.target t).egress.isEmpty

/-- IDLE_SEND (R157): while UP with nothing else to send. -/
def execIdleSend (l : LinkId) (s : State) : Result :=
  let k := s.link l
  .next (if k.state = .up && !k.resetPending && !(k.handed.any k.maySend) && !k.ackDue &&
      !(k.canTake && s.packetWaits l) then
    s.setLink l (k.emit s.clock [idleFrame k.nextNumber])
  else s)

/-! ## Link deadlines -/

/-- REPLAY_TIMEOUT (R159): 32 µs after the latest NAK was sent, the frame it asks for has not been taken. -/
def execReplayTimeout (l : LinkId) (s : State) : Result :=
  .next (match (s.link l).nak with
    | some n =>
      if (s.link l).state = .up && s.reached n.deadline then s.failedReplay l { n with deadline := none } else s
    | none => s)

/-- SILENCE_DEADLINE (R161, R162). -/
def execSilenceDeadline (l : LinkId) (s : State) : Result :=
  .next (if (s.link l).state = .up && s.reached (s.link l).silence then s.loseLink l else s)

end Sys2Proof.Machine
end

