-- ==== Sys2Proof/Decode.lean ====
section
/-! DEFINITION. The command a word spells by the opcode table's bits, and the frames of the hub link as bytes: the CRC
of R153, the bytes of a frame, and the command a received frame stands for. -/

namespace Sys2Proof

/-- The rows of the opcode table that give bits, as (bits, word, command): the table gives none to any row. -/
def tableWords : List (Nat × Nat × Instr) := []

/-- The command a word spells by the table's bits. -/
def decodeTableWord (nbits w : Nat) : Option Instr :=
  (tableWords.find? fun r => r.1 = nbits && r.2.1 = w).map fun r => r.2.2

/-! ## Frames as bytes (R153, section 9.6) -/

/-- One bit of the CRC division by the generator 04C11DB7h, most significant bit first (log entry 21). -/
def crcBit (c : BitVec 32) : BitVec 32 := if c.msb then (c <<< 1) ^^^ 0x04C11DB7#32 else c <<< 1

/-- One byte of the CRC division. -/
def crcByte (c : BitVec 32) (b : Byte) : BitVec 32 :=
  (List.range 8).foldl (fun x _ => crcBit x) (c ^^^ (b.setWidth 32 <<< 24))

/-- The CRC of a frame: initial value FFFFFFFFh, result complemented. -/
def crc32 (bytes : List Byte) : BitVec 32 := ~~~bytes.foldl crcByte 0xFFFFFFFF#32

/-- The bytes of a frame before its CRC: number, kind, payload length, payload. -/
def frameBody (f : Machine.Frame) : List Byte := [f.number, f.kind, Machine.byteOf f.payload.length] ++ f.payload

/-- The bytes of a frame on the wire. -/
def frameBytes (f : Machine.Frame) : List Byte := frameBody f ++ Machine.bytes32 (crc32 (frameBody f))

/-- The frame received whole in some bytes; none is a CRC failure (R153). -/
def frameOfBytes (bytes : List Byte) : Option Machine.Frame :=
  let body := bytes.take (bytes.length - 4)
  if 7 ≤ bytes.length ∧ bytes.length = 7 + (Machine.byteAt bytes 2).toNat ∧
      bytes.drop (bytes.length - 4) = Machine.bytes32 (crc32 body) then
    some { number := Machine.byteAt bytes 0, kind := Machine.byteAt bytes 1, payload := body.drop 3 }
  else none

/-- The packet frame of a frame kind code. -/
def packetOfCode (kind : Byte) : Option PacketKind :=
  if kind = 0x01 then some .request
  else if kind = 0x02 then some .response
  else if kind = 0x03 then some .credit
  else if kind = 0x04 then some .alert
  else none

/-- The command that a frame of good CRC stands for on link `l`: a frame of no known kind, or of a payload its kind does
not have, is taken as one with a CRC failure (R153). -/
def frameCommand (l : LinkId) (f : Machine.Frame) : Instr :=
  match packetOfCode f.kind with
  | some kind =>
    if Machine.wellFramed l kind f.payload then .packetFrameReceived l f.number kind f.payload else .crcFailureReceived l
  | none =>
    if f.kind = 0x10 then
      match f.payload with
      | [a] => .trainReceived l a
      | _ => .crcFailureReceived l
    else if f.payload ≠ [] then .crcFailureReceived l
    else if f.kind = 0x11 then if f.number = 255 then .ack255Received l else .ackReceived l f.number
    else if f.kind = 0x12 then .nakReceived l f.number
    else if f.kind = 0x13 then .idleReceived l f.number
    else if f.kind = 0x14 then .linkResetReceived l
    else .crcFailureReceived l

/-- The command that the bytes of a frame, taken whole on link `l`, stand for. -/
def receivedCommand (l : LinkId) (bytes : List Byte) : Instr :=
  match frameOfBytes bytes with
  | some f => frameCommand l f
  | none => .crcFailureReceived l

end Sys2Proof
end

