-- ==== Sys2Proof/Machine/BankCommands.lean ====
section
/-! DEFINITION. The reads and commands of the error banks: head snapshot (R91), POP (R94), CLEAR OVERFLOW (R96), INJECT
(R97, R98), RESET COUNTER (R105), and the leak expiry (R103). -/

namespace Sys2Proof.Machine

/-- HEAD_FIRST_PART_READ (R91): the reader's snapshot is replaced by a copy of the bank's oldest record. -/
def execHeadFirstPartRead (p : RP) (s : State) : Result :=
  .next (s.serveRead p fun _ r =>
    match r with
    | .headFirst b =>
      let copy := (s.bank b).records.head?
      some (s.setPort p { s.port p with snapshot := some { bank := b, copy } }, .ok, headFirstBytes s.free copy)
    | _ => none)

/-- The bank operand of a command, in byte 1 (R168, section 10.3). -/
def bankOperand (data : List Byte) : Option Bank := Bank.ofCode (byteAt data 1).toNat

/-- POP on bank `b` (R94). -/
def State.popBank (s : State) (b : Bank) (sequence : BitVec 16) : State × Status :=
  match (s.bank b).records with
  | [] => (s, .stale)
  | r :: rest =>
    if r.sequence = sequence then (s.setBank b { s.bank b with records := rest }, .ok) else (s, .stale)

/-- POP (R93, R94): served while CONTAINED too. -/
def execPop (p : RP) (s : State) : Result :=
  .next (s.serveCommand p .pop fun _ data =>
    s.whenRight p Rights.handle (s.whenValid (bankOperand data) fun b => s.popBank b (be16 data 2)))

/-- CLEAR_OVERFLOW (R93, R96). -/
def execClearOverflow (p : RP) (s : State) : Result :=
  .next (s.serveCommand p .clearOverflow fun _ data =>
    s.whenNormal (s.whenRight p Rights.handle (s.whenValid (bankOperand data) fun b =>
      (s.setBank b { s.bank b with overflow := false }, .ok))))

/-- What an injection reports: no address, table version or detail (R97). -/
def Injection.report (x : Injection) : Report :=
  { kind := x.kind, severity := x.severity, injected := true, port := x.port, tag := x.tag, target := x.target,
    entry := x.entry }

/-- INJECT (R93, R97, R98). -/
def execInject (p : RP) (s : State) : Result :=
  .next (s.serveCommand p .inject fun _ data =>
    s.whenNormal (s.whenRight p Rights.test (s.whenValid (injectionOfBytes data) fun x =>
      (s.report x.bank x.report, .ok))))

/-- RESET_COUNTER (R93, R105). -/
def execResetCounter (p : RP) (s : State) : Result :=
  .next (s.serveCommand p .resetCounter fun _ data =>
    s.whenNormal (s.whenRight p Rights.handle (s.whenValid (bankOperand data) fun b =>
      (s.setBank b { s.bank b with counter := { (s.bank b).counter with count := 0, tripped := false } }, .ok))))

/-- LEAK_EXPIRY (R103). -/
def execLeakExpiry (b : Bank) (s : State) : Result :=
  .next (if s.reached (s.bank b).counter.leakDeadline then
    s.setBank b { s.bank b with counter := (s.bank b).counter.leak s.clock }
  else s)

end Sys2Proof.Machine
end

