-- ==== Sys2Proof/Machine/Edit.lean ====
section
/-! DEFINITION. The edit unit: claim and lease (R22, R23, R30), shadow (R24, R25), commit and abort (R26 to R29), rights
(R32 to R34), and the reads of the active table (R7). -/

namespace Sys2Proof.Machine

/-! ## The claim -/

/-- The claim, when port `p` holds it. -/
def State.claimOf (s : State) (p : RP) : Option Claim := s.claim.filter fun c => c.holder = p

/-- The deadline of a lease that starts or restarts now (R22, R23). -/
def State.leaseDeadline (s : State) : Nat := s.clock + micros s.leaseMs

/-- The state with a claim whose lease starts now. -/
def State.withClaim (s : State) (holder : RP) (shadow : Table) : State :=
  { s with claim := some { holder, deadline := s.leaseDeadline, shadow } }

/-- A command for the claim holder alone: BUSY for any other port (R21). -/
def State.whenHolder (s : State) (p : RP) (run : Claim → State × Status) : State × Status :=
  match s.claimOf p with
  | some c => run c
  | none => (s, .busy)

/-- A STORAGE CHECK found by the command of a port: it carries the port and the tag (R7, R22, R25, R28). -/
def State.commandFault (s : State) (p : RP) (tag : Tag) : State :=
  s.storageCheck { kind := .storageCheck, severity := .fatal, port := some p, tag := some tag }

/-- CLAIM (R21, R22). The copy of the active table reads every parity check of it. -/
def State.takeClaim (s : State) (p : RP) (tag : Tag) : State × Status :=
  s.whenNormal (s.whenRight p Rights.configure
    (match s.claim with
      | none => if s.active.sound then (s.withClaim p s.active, .ok) else (s.commandFault p tag, .hubFault)
      | some c => if c.holder = p then (s.withClaim p c.shadow, .ok) else (s, .busy)))

/-- CLAIM. -/
def execClaim (p : RP) (s : State) : Result := .next (s.serveCommand p .claim fun tag _ => s.takeClaim p tag)

/-! ## Commit and abort -/

/-- The two conditions of the commit check on a window (R26). -/
def Window.commits (w : Window) : Bool :=
  (!w.valid || w.base.toNat ≤ w.limit.toNat) && (!w.atomic || w.readTarget = w.writeTarget)

/-- The commit check (R26). -/
def Table.commits (t : Table) : Bool := t.windows.toList.all Window.commits

/-- The outcome of every head is stale after a commit: each is offered again before it can be granted (R1, R8, R46). -/
def State.dropOutcomes (s : State) : State :=
  { s with ports := tab fun p => { look s.ports p with outcome := none, offerDue := true } }

/-- A commit that passes its checks (R27). -/
def State.install (s : State) (shadow : Table) : State :=
  ({ s with active := shadow, version := s.version + 1, claim := none }).dropOutcomes

/-- COMMIT (R21, R26, R27, R28). -/
def State.takeCommit (s : State) (p : RP) (tag : Tag) : State × Status :=
  s.whenNormal (s.whenHolder p fun c =>
    if !c.shadow.sound then (s.commandFault p tag, .hubFault)
    else if c.shadow.commits then (s.install c.shadow, .ok)
    else (s.withClaim p c.shadow, .invalid))

/-- COMMIT. -/
def execCommit (p : RP) (s : State) : Result := .next (s.serveCommand p .commit fun tag _ => s.takeCommit p tag)

/-- ABORT (R21, R29). -/
def State.takeAbort (s : State) (p : RP) : State × Status :=
  s.whenNormal (s.whenHolder p fun _ => (s.dropClaim, .ok))

/-- ABORT. -/
def execAbort (p : RP) (s : State) : Result := .next (s.serveCommand p .abort fun _ _ => s.takeAbort p)

/-! ## The shadow -/

/-- Replaces window `w` of a table. -/
def Table.setWindow (t : Table) (w : Fin 16) (x : Window) : Table := { t with windows := upd t.windows w x }

/-- The parity check of a window after one of its two records is written: it passes where it passed before, and where the
window was damaged the outcome is not stated (log entry 6). -/
def State.parityAfterWrite (s : State) (before : Bool) : Bool := before || Config.freeParity s.freeCount

/-- A window range record stored in a window (R24). -/
def Window.withRange (x : Window) (r : Bool × BitVec 28 × BitVec 28) (parity : Bool) : Window :=
  { x with valid := r.1, base := r.2.1, limit := r.2.2, parity }

/-- A window routing record stored in a window (R24). -/
def Window.withRouting (x : Window) (r : Routing) (parity : Bool) : Window :=
  { x with
    readTarget := r.readTarget
    writeTarget := r.writeTarget
    readRights := r.readRights
    writeRights := r.writeRights
    atomic := r.atomic
    cls := r.cls
    parity }

/-- A shadow write of the holder: stored whole where every field is in range, and the lease restarts (R23, R24). -/
def State.storeShadow (s : State) (p : RP) (shadow : Option Table) : State × Status :=
  s.whenNormal (s.whenHolder p fun _ => s.whenValid shadow fun t =>
    ({ s.withClaim p t with freeCount := s.freeCount + 1 }, .ok))

/-- The shadow of port `p`'s claim, or the active table where it holds none (it is then not used). -/
def State.shadowOf (s : State) (p : RP) : Table := ((s.claimOf p).map Claim.shadow).getD s.active

/-- SHADOW_WRITE (R21, R24). -/
def execShadowWrite (p : RP) (s : State) : Result :=
  .next (s.serveWrite p fun _ r data =>
    let t := s.shadowOf p
    match r with
    | .shadowRange w =>
      let x := look t.windows w
      some (s.storeShadow p ((rangeOfBytes data).map fun f =>
        t.setWindow w (x.withRange f (s.parityAfterWrite x.parity))))
    | .shadowRouting w =>
      let x := look t.windows w
      some (s.storeShadow p ((routingOfBytes data).map fun f =>
        t.setWindow w (x.withRouting f (s.parityAfterWrite x.parity))))
    | .shadowDefault =>
      some (s.storeShadow p ((defaultOfBytes data).map fun f =>
        { t with route := { ceiling := f.1, target := f.2, parity := true } }))
    | _ => none)

/-- A read that checks the parity of the item it reads (R7, R25). -/
def State.checkedRead (s : State) (p : RP) (tag : Tag) (parity : Bool) (data : List Byte) : State × Status × List Byte :=
  if parity then (s, .ok, data) else (s.commandFault p tag, .hubFault, ones 8)

/-- A shadow read (R21, R25): BUSY for any port but the holder. -/
def State.readShadow (s : State) (p : RP) (tag : Tag) (read : Table → Bool × List Byte) : State × Status × List Byte :=
  match s.claimOf p with
  | some c => s.checkedRead p tag (read c.shadow).1 (read c.shadow).2
  | none => (s, .busy, ones 8)

/-- SHADOW_READ (R25). The read checks the parity of the window or route it addresses and of no other item of the shadow: DEDUCED
(log entry 41, unsafe). -/
def execShadowRead (p : RP) (s : State) : Result :=
  .next (s.serveRead p fun tag r =>
    match r with
    | .shadowRange w =>
      some (s.readShadow p tag fun t => ((look t.windows w).parity, rangeBytes (look t.windows w)))
    | .shadowRouting w =>
      some (s.readShadow p tag fun t => ((look t.windows w).parity, routingBytes s.free (look t.windows w)))
    | .shadowDefault => some (s.readShadow p tag fun t => (t.route.parity, defaultBytes s.free t.route))
    | _ => none)

/-- ACTIVE_TABLE_READ (R7, R165). -/
def execActiveTableRead (p : RP) (s : State) : Result :=
  .next (s.serveRead p fun tag r =>
    match r with
    | .activeRange w =>
      let x := look s.active.windows w
      some (s.checkedRead p tag x.parity (rangeBytes x))
    | .activeRouting w =>
      let x := look s.active.windows w
      some (s.checkedRead p tag x.parity (routingBytes s.free x))
    | .activeDefault => some (s.checkedRead p tag s.active.route.parity (defaultBytes s.free s.active.route))
    | _ => none)

/-! ## Rights and lease -/

/-- RIGHTS_WRITE (R21, R33): CONFIGURE, then the lock, then the range. -/
def execRightsWrite (p : RP) (s : State) : Result :=
  .next (s.serveWrite p fun _ r data =>
    match r with
    | .rights q =>
      some (s.whenNormal (s.whenRight p Rights.configure
        (if s.rightsLock then (s, .denied)
        else s.whenValid (rightsOfBytes data) fun x => ({ s with rights := upd s.rights q x }, .ok))))
    | _ => none)

/-- LOCK_RIGHTS (R34). -/
def execLockRights (p : RP) (s : State) : Result :=
  .next (s.serveCommand p .lockRights fun _ _ =>
    s.whenNormal (s.whenRight p Rights.configure ({ s with rightsLock := true }, .ok)))

/-- LEASE_INTERVAL_WRITE (R23): a deadline already set is not moved. -/
def execLeaseIntervalWrite (p : RP) (s : State) : Result :=
  .next (s.serveWrite p fun _ r data =>
    match r with
    | .leaseInterval =>
      some (s.settingsWrite p (inRange 1 1000 (be16 data 0).toNat) fun n => { s with leaseMs := n })
    | _ => none)

/-- LEASE_EXPIRY (R30). -/
def execLeaseExpiry (s : State) : Result :=
  .next (match s.claim with
    | some c =>
      if c.deadline ≤ s.clock then
        s.dropClaim.report .hub { kind := .claimExpired, severity := .corrected, port := some c.holder }
      else s
    | none => s)

end Sys2Proof.Machine
end

