-- ==== Sys2Proof/Machine/FenceCommands.lean ====
section
/-! DEFINITION. The commands FENCE (R125) and REOPEN (R126, R127). -/

namespace Sys2Proof.Machine

/-- The target operand of a command, in byte 1 (R168, section 10.3). -/
def targetOperand (data : List Byte) : Option TP := finOf 6 (byteAt data 1).toNat

/-- FENCE on target `t` (R125). -/
def State.takeFence (s : State) (p : RP) (tag : Tag) (t : TP) : State × Status :=
  let r : Report :=
    { kind := .manualFence, severity := .fatal, port := some p, tag := some tag, target := some t, detail := some (0, 0) }
  match (s.target t).state with
  | .opened => (s.fenceFor t r, .ok)
  | .fenced => (s, .ok)
  | .down =>
    ((((s.setTarget t { s.target t with state := .fenced }).report (.tgt t) r).modLink (.tp t) Link.handReset).offerAll,
      .ok)

/-- FENCE. -/
def execFence (p : RP) (s : State) : Result :=
  .next (s.serveCommand p .fence fun tag data =>
    s.whenNormal (s.whenRight p Rights.handle (s.whenValid (targetOperand data) fun t => s.takeFence p tag t)))

/-- Whether a bank holds a FATAL record that was not injected (R126). -/
def BankState.holdsFatal (b : BankState) : Bool := b.records.any fun r => r.severity = .fatal && !r.injected

/-- An accepted REOPEN (R127). -/
def State.openTarget (s : State) (t : TP) : State :=
  ((s.setTarget t { s.target t with state := .opened, credits := (s.target t).advertisement }).raise (.tgt t)
    .reopen).offerAll

/-- REOPEN on target `t` (R126). -/
def State.takeReopen (s : State) (t : TP) : State × Status :=
  match (s.target t).state with
  | .opened => (s, .ok)
  | .down => (s, .busy)
  | .fenced =>
    if (s.link (.tp t)).state ≠ .up then (s, .busy)
    else if (s.bank (.tgt t)).holdsFatal then (s, .invalid)
    else (s.openTarget t, .ok)

/-- REOPEN. -/
def execReopen (p : RP) (s : State) : Result :=
  .next (s.serveCommand p .reopen fun _ data =>
    s.whenNormal (s.whenRight p Rights.handle (s.whenValid (targetOperand data) fun t => s.takeReopen t)))

end Sys2Proof.Machine
end

