-- ==== Sys2Proof/Machine/Reset.lean ====
section
/-! DEFINITION. The two resets (00, Resets; R5, R20, R41, R65, R79, R80, R81, R92, R101, R111, R118, R135, R137, R152). -/

namespace Sys2Proof.Machine

/-- A bank over a warm reset: kept, but the leak restarts (R79, R101). -/
def BankState.overWarmReset (b : BankState) (now : Nat) : BankState :=
  { b with counter := { b.counter with leakDeadline := leakFrom now b.counter.leakMs } }

/-- COLD_RESET: all state of the hub takes its reset values. The queue of commands and the numbering of free values are
the model's own and stay. -/
def execColdReset (s : State) : Result :=
  .next { State.reset with freeCount := s.freeCount, pending := s.pending }

/-- WARM_RESET: all state takes its reset values but the banks, the hub sequence counter and the stamp. -/
def execWarmReset (s : State) : Result :=
  .next { State.reset with
    clock := s.clock
    banks := tab fun i => (look s.banks i).overWarmReset s.clock
    sequence := s.sequence
    freeCount := s.freeCount
    pending := s.pending }

end Sys2Proof.Machine
end

