-- ==== Sys2Proof/Machine/Settings.lean ====
section
/-! DEFINITION. The settings writes of the record space (R38, R61 to R63, R86, R99, R104), and the CONFIG requests that
have no row of their own: plain CONFIG READs and refused requests (R165, R166; log entry 8). -/

namespace Sys2Proof.Machine

/-- CAP_WRITE (R38): a change of the cap is an offer event of the port it belongs to (R8). -/
def execCapWrite (p : RP) (s : State) : Result :=
  .next (s.serveWrite p fun _ r data =>
    match r with
    | .port q =>
      some (s.settingsWrite p (inRange 1 32 (byteAt data 1).toNat) fun n =>
        (s.setPort q { s.port q with cap := n }).offerPort q)
    | _ => none)

/-- CLASS_INTERVAL_WRITE (R61). -/
def execClassIntervalWrite (p : RP) (s : State) : Result :=
  .next (s.serveWrite p fun _ r data =>
    match r with
    | .classInterval c =>
      some (s.settingsWrite p (inRange 1 4095 (be16 data 0).toNat) fun n =>
        { s with classIntervals := upd s.classIntervals c n })
    | _ => none)

/-- RECLAIM_INTERVAL_WRITE (R62). -/
def execReclaimIntervalWrite (p : RP) (s : State) : Result :=
  .next (s.serveWrite p fun _ r data =>
    match r with
    | .reclaimInterval =>
      some (s.settingsWrite p (inRange 1 255 (byteAt data 0).toNat) fun n => { s with reclaimMs := n })
    | _ => none)

/-- FENCE_LIMIT_WRITE (R63). -/
def execFenceLimitWrite (p : RP) (s : State) : Result :=
  .next (s.serveWrite p fun _ r data =>
    match r with
    | .target t =>
      some (s.settingsWrite p (inRange 1 15 (byteAt data 5).toNat) fun n =>
        s.setTarget t { s.target t with fenceLimit := n })
    | _ => none)

/-- MASK_WRITE (R86). -/
def execMaskWrite (p : RP) (s : State) : Result :=
  .next (s.serveWrite p fun _ r data =>
    match r with
    | .mask b => some (s.settingsWrite p (maskOfBytes b data) fun m => s.setBank b { s.bank b with mask := m })
    | _ => none)

/-- ALERT_FLOOR_ROUTE_WRITE (R99). -/
def execAlertFloorRouteWrite (p : RP) (s : State) : Result :=
  .next (s.serveWrite p fun _ r data =>
    match r with
    | .alert b =>
      some (s.settingsWrite p (alertOfBytes data) fun x => s.setBank b { s.bank b with floor := x.1, route := x.2 })
    | _ => none)

/-- A counter settings write stored (R104): the bank raises TRIP where the write trips its counter. -/
def State.storeCounter (s : State) (b : Bank) (x : Bool × Nat × Nat) : State :=
  let c := (s.bank b).counter
  let c' := c.write s.clock x.1 x.2.1 x.2.2
  let s₁ := s.setBank b { s.bank b with counter := c' }
  if c'.tripped && !c.tripped then s₁.raise b .trip else s₁

/-- COUNTER_SETTINGS_WRITE (R104). -/
def execCounterSettingsWrite (p : RP) (s : State) : Result :=
  .next (s.serveWrite p fun _ r data =>
    match r with
    | .counter b => some (s.settingsWrite p (counterOfBytes data) fun x => s.storeCounter b x)
    | _ => none)

/-! ## Plain CONFIG READs -/

/-- The time left on the lease in whole milliseconds rounded up, 0 when there is no holder (R19). -/
def State.leaseLeft (s : State) : Nat :=
  match s.claim with
  | some c => (c.deadline - s.clock + 999) / 1000
  | none => 0

/-- Tracker occupancy (R60, section 10.3). -/
def State.occupancyBytes (s : State) : List Byte :=
  let held : BitVec 24 :=
    BitVec.ofNat 6 (s.heldCount 0) ++ BitVec.ofNat 6 (s.heldCount 1) ++ BitVec.ofNat 6 (s.heldCount 2) ++
      BitVec.ofNat 6 (s.heldCount 3)
  [byteOf (s.stateCount .free), byteOf (s.stateCount .queued), byteOf (s.stateCount .issued),
   byteOf (s.stateCount .late), byteOf (s.stateCount .abandoned), held.extractLsb' 16 8, held.extractLsb' 8 8,
   held.extractLsb' 0 8]

/-- The per-port record (R151). It stands as before the head leaves, so a port's read of its own record counts itself in the
ingress occupancy, and neither its answer nor its credit yet: DEDUCED (log entry 39, unsafe). -/
def State.portBytes (s : State) (q : RP) : List Byte :=
  let u := s.port q
  [byteOf (s.link (.rp q)).state.code, byteOf u.cap, byteOf (s.heldCount q), byteOf u.ingress.length,
   byteOf u.responses.length, byteOf u.reckoning, byteOf u.due, 0]

/-- The per-target record (R71, R118, section 10.3). -/
def State.targetBytes (s : State) (t : TP) : List Byte :=
  let u := s.target t
  [byteOf u.state.code, byteOf (s.link (.tp t)).state.code, byteOf u.abandon, byteOf u.credits, byteOf u.advertisement,
   byteOf u.fenceLimit, 0, 0]

/-- The edit state record (R19). -/
def State.editBytes (s : State) : List Byte :=
  [orOnes (fun p => byteOf p.val) s.holder] ++ bytes16 (BitVec.ofNat 16 s.leaseLeft) ++ [byteOf (bit s.rightsLock)] ++
    bytes16 s.version ++ [0, 0]

/-- A further part of a bank's head, from the reader's snapshot; STALE where the snapshot is of another bank or none
(R91). -/
def State.furtherPart (s : State) (p : RP) (b : Bank) (part : Option Rec → List Byte) : Status × List Byte :=
  match (s.port p).snapshot with
  | some x => if x.bank = b then (.ok, part x.copy) else (.stale, ones 8)
  | none => (.stale, ones 8)

/-- The CONFIG READs that have no row of their own: status and contents as they stand at the read (R169). The records
with a row of their own answer none here, and the command record, which is not readable, INVALID (R165). -/
def State.plainRead (s : State) (p : RP) (r : RecordId) : Option (Status × List Byte) :=
  match r with
  | .identity => some (.ok, identityBytes)
  | .sequenceStamp => some (.ok, bytes16 s.sequence ++ bytes32 s.stamp ++ [0, 0])
  | .hubState => some (.ok, byteOf (bit (s.hub = .contained)) :: List.replicate 7 0)
  | .editState => some (.ok, s.editBytes)
  | .occupancy => some (.ok, s.occupancyBytes)
  | .command => some (.invalid, ones 8)
  | .port q => some (.ok, s.portBytes q)
  | .rights q => some (.ok, padded s.free [rightsByte (s.rightsOf q)])
  | .classInterval c => some (.ok, padded s.free (bytes16 (BitVec.ofNat 16 (look s.classIntervals c))))
  | .reclaimInterval => some (.ok, padded s.free [byteOf s.reclaimMs])
  | .leaseInterval => some (.ok, padded s.free (bytes16 (BitVec.ofNat 16 s.leaseMs)))
  | .target t => some (.ok, s.targetBytes t)
  | .headFirst _ => none
  | .headSecond b => some (s.furtherPart p b (headSecondBytes s.free))
  | .headThird b => some (s.furtherPart p b (headThirdBytes s.free))
  | .bankStatus b => some (.ok, bankStatusBytes (s.bank b))
  | .mask b => some (.ok, padded s.free (bytes32 (s.bank b).mask))
  | .alert b =>
    some (.ok, padded s.free [byteOf (((s.bank b).floor.map Severity.code).getD 3), (s.bank b).route.setWidth 8])
  | .counter b => some (.ok, padded s.free (counterBytes (s.bank b).counter))
  | .activeRange _ => none
  | .activeRouting _ => none
  | .activeDefault => none
  | .shadowRange _ => none
  | .shadowRouting _ => none
  | .shadowDefault => none

/-- The CONFIG WRITEs the record space itself refuses: an unused or read-only record, or a command code that names
nothing (R165 checks 2 to 4). -/
def refusedWrite (r : Option RecordId) (data : List Byte) : Bool :=
  match r with
  | none => true
  | some .command => (Command.ofByte (byteAt data 0)).isNone
  | some .identity => true
  | some .sequenceStamp => true
  | some .hubState => true
  | some .editState => true
  | some .occupancy => true
  | some (.headFirst _) => true
  | some (.headSecond _) => true
  | some (.headThird _) => true
  | some (.bankStatus _) => true
  | some (.activeRange _) => true
  | some (.activeRouting _) => true
  | some .activeDefault => true
  | some (.port _) => false
  | some (.rights _) => false
  | some (.classInterval _) => false
  | some .reclaimInterval => false
  | some .leaseInterval => false
  | some (.target _) => false
  | some (.mask _) => false
  | some (.alert _) => false
  | some (.counter _) => false
  | some (.shadowRange _) => false
  | some (.shadowRouting _) => false
  | some .shadowDefault => false

/-- CONFIG_WRITE (R165): the CONFIG request at the head that no other row serves. A CONFIG WRITE is refused, HUB FAULT
while CONTAINED and INVALID otherwise; a CONFIG READ is answered from the map, INVALID where it names an unused record. -/
def execConfigWrite (p : RP) (s : State) : Result :=
  .next (match s.writeHead p, s.readHead p with
    | some (tag, number, data), _ =>
      if refusedWrite (recordOf number) data then finishWrite p tag (s.whenNormal (s, .invalid)) else s
    | none, some (tag, number) =>
      match recordOf number with
      | some r =>
        match s.plainRead p r with
        | some a => finishRead p tag (s, a)
        | none => s
      | none => finishRead p tag (s, .invalid, ones 8)
    | none, none => s)

end Sys2Proof.Machine
end

