-- ==== Sys2Proof/Machine/Dispatch.lean ====
section
/-! DEFINITION. The meaning of every command of the opcode table. -/

namespace Sys2Proof.Machine

/-- The effect of a command on everything but the queue. -/
def exec (i : Instr) (s : State) : Host.Outcome State Fault Refusal :=
  match i with
  | .coldReset => Sys2Proof.Machine.execColdReset s
  | .warmReset => Sys2Proof.Machine.execWarmReset s
  | .requestArrival p r => Sys2Proof.Machine.execRequestArrival p r s
  | .offer p => Sys2Proof.Machine.execOffer p s
  | .grant => Sys2Proof.Machine.execGrant s
  | .postedWriteGrant => Sys2Proof.Machine.execPostedWriteGrant s
  | .send t => Sys2Proof.Machine.execSend t s
  | .postedWriteSend t => Sys2Proof.Machine.execPostedWriteSend t s
  | .creditReturn t amount => Sys2Proof.Machine.execCreditReturn t amount s
  | .responseIntake t r => Sys2Proof.Machine.execResponseIntake t r s
  | .stage1Expiry n => Sys2Proof.Machine.execStage1Expiry n s
  | .stage2Expiry n => Sys2Proof.Machine.execStage2Expiry n s
  | .reclaimExpiry n => Sys2Proof.Machine.execReclaimExpiry n s
  | .containedHeadHandling p => Sys2Proof.Machine.execContainedHeadHandling p s
  | .refusalPlaceAnswer p => Sys2Proof.Machine.execRefusalPlaceAnswer p s
  | .claim p => Sys2Proof.Machine.execClaim p s
  | .commit p => Sys2Proof.Machine.execCommit p s
  | .abort p => Sys2Proof.Machine.execAbort p s
  | .lockRights p => Sys2Proof.Machine.execLockRights p s
  | .shadowWrite p => Sys2Proof.Machine.execShadowWrite p s
  | .shadowRead p => Sys2Proof.Machine.execShadowRead p s
  | .activeTableRead p => Sys2Proof.Machine.execActiveTableRead p s
  | .rightsWrite p => Sys2Proof.Machine.execRightsWrite p s
  | .leaseIntervalWrite p => Sys2Proof.Machine.execLeaseIntervalWrite p s
  | .capWrite p => Sys2Proof.Machine.execCapWrite p s
  | .classIntervalWrite p => Sys2Proof.Machine.execClassIntervalWrite p s
  | .reclaimIntervalWrite p => Sys2Proof.Machine.execReclaimIntervalWrite p s
  | .fenceLimitWrite p => Sys2Proof.Machine.execFenceLimitWrite p s
  | .maskWrite p => Sys2Proof.Machine.execMaskWrite p s
  | .alertFloorRouteWrite p => Sys2Proof.Machine.execAlertFloorRouteWrite p s
  | .counterSettingsWrite p => Sys2Proof.Machine.execCounterSettingsWrite p s
  | .configWrite p => Sys2Proof.Machine.execConfigWrite p s
  | .headFirstPartRead p => Sys2Proof.Machine.execHeadFirstPartRead p s
  | .pop p => Sys2Proof.Machine.execPop p s
  | .clearOverflow p => Sys2Proof.Machine.execClearOverflow p s
  | .inject p => Sys2Proof.Machine.execInject p s
  | .resetCounter p => Sys2Proof.Machine.execResetCounter p s
  | .fence p => Sys2Proof.Machine.execFence p s
  | .reopen p => Sys2Proof.Machine.execReopen p s
  | .leaseExpiry => Sys2Proof.Machine.execLeaseExpiry s
  | .leakExpiry b => Sys2Proof.Machine.execLeakExpiry b s
  | .creditSend p => Sys2Proof.Machine.execCreditSend p s
  | .responseSend p => Sys2Proof.Machine.execResponseSend p s
  | .alertSend p => Sys2Proof.Machine.execAlertSend p s
  | .trainSend l => Sys2Proof.Machine.execTrainSend l s
  | .trainReceived l advertisement => Sys2Proof.Machine.execTrainReceived l advertisement s
  | .ack255Received l => Sys2Proof.Machine.execAck255Received l s
  | .linkResetSend l => Sys2Proof.Machine.execLinkResetSend l s
  | .linkResetReceived l => Sys2Proof.Machine.execLinkResetReceived l s
  | .packetFrameReceived l number kind payload => Sys2Proof.Machine.execPacketFrameReceived l number kind payload s
  | .idleReceived l number => Sys2Proof.Machine.execIdleReceived l number s
  | .crcFailureReceived l => Sys2Proof.Machine.execCrcFailureReceived l s
  | .ackReceived l number => Sys2Proof.Machine.execAckReceived l number s
  | .nakReceived l number => Sys2Proof.Machine.execNakReceived l number s
  | .nakSend l => Sys2Proof.Machine.execNakSend l s
  | .ackSend l => Sys2Proof.Machine.execAckSend l s
  | .idleSend l => Sys2Proof.Machine.execIdleSend l s
  | .replayTimeout l => Sys2Proof.Machine.execReplayTimeout l s
  | .silenceDeadline l => Sys2Proof.Machine.execSilenceDeadline l s

end Sys2Proof.Machine
end

