-- ==== Sys2Proof/Machine/Step.lean ====
section
/-! DEFINITION. One step of the block: the command at the front of the queue, or one microsecond when none waits. -/

namespace Sys2Proof.Machine

/-- One microsecond passes: the clock, and with it the stamp, advances (R81; log entry 3). -/
def State.tick (s : State) : State := { s with clock := s.clock + 1 }

/-- The command at the front of the queue has its effect; on an empty queue a microsecond passes. -/
def step (s : State) : Host.Outcome State Fault Refusal :=
  match s.pending with
  | [] => .next s.tick
  | c :: rest => exec c { s with pending := rest }

/-- The state with the command a word spells at the front of its queue; unchanged where the word spells none. -/
def State.withFetchWord (s : State) (nbits w : Nat) : State :=
  match decodeTableWord nbits w with
  | some c => { s with pending := c :: s.pending }
  | none => s

end Sys2Proof.Machine
end

