-- ==== Sys2Proof/Safety.lean ====
section
/-! DEFINITION. The terms the statements use: the invariants the spec gives every state the hub reaches, the reset values,
what stands at a head, how an answered head leaves, and which row of the opcode table serves a CONFIG request. -/

namespace Sys2Proof.Machine

/-- A threshold counter as R100 and R102 leave it: tripped exactly while the count equals the threshold, and a leak
deadline exactly while the leak interval is not 0. -/
def Counter.consistent (c : Counter) : Prop :=
  c.count ≤ c.threshold ∧ (c.tripped = true ↔ c.count = c.threshold) ∧ 1 ≤ c.threshold ∧ c.threshold ≤ 4095 ∧
    c.leakMs ≤ 255 ∧ (c.leakDeadline.isSome = true ↔ c.leakMs ≠ 0)

/-- Every bank holds at most 4 records and a consistent counter (R78, R87, R100, R102). -/
def State.banksKept (s : State) : Prop :=
  ∀ b, (s.bank b).records.length ≤ Config.bankDepth ∧ (s.bank b).counter.consistent

/-- The room of every response queue (R145): occupancy plus held count never exceeds 40. -/
def State.roomKept (s : State) : Prop := ∀ p, (s.port p).responses.length + s.heldCount p ≤ Config.responseDepth

/-- The credits of every requester port: while its link is UP, the ingress queue's occupancy, the reckoning and the credits
due make 8 (R138); while it is not, they make no more than 8, the bound of each (R136). -/
def State.creditsKept (s : State) : Prop :=
  ∀ p,
    let u := s.port p
    let sum := u.ingress.length + u.reckoning + u.due
    ((s.link (.rp p)).state = .up → sum = Config.ingressDepth) ∧ sum ≤ Config.ingressDepth

/-- What a reset or a loss leaves of every requester port whose link is not UP: the queues, the credits due, the pending map and
the snapshot are empty (R137, R148), and every entry in use of the port is marked requester lost (R39). -/
def State.idleKept (s : State) : Prop :=
  ∀ p, (s.link (.rp p)).state ≠ .up →
    let u := s.port p
    u.ingress = [] ∧ u.due = 0 ∧ u.responses = [] ∧ (∀ i, look u.alerts i = Reasons.empty) ∧ u.snapshot = none ∧
      ∀ i, (s.entry i).state ≠ .free → (s.entry i).port = p → (s.entry i).lost = true

/-- Every entry in use has a target, and a target's abandon count is the number of its ABANDONED entries (R35, R69). -/
def State.abandonKept (s : State) : Prop :=
  (∀ i, (s.entry i).state ≠ .free → (s.entry i).target ≠ none) ∧
  ∀ t, (s.target t).abandon =
    ((List.finRange 32).filter fun i => (s.entry i).state = .abandoned && (s.entry i).target = some t).length

/-- A target that is not OPEN has no entry in use, no egress place and no credit (R118, R49), and while the hub is
CONTAINED every target is FENCED (R129, R130). -/
def State.cutOffKept (s : State) : Prop :=
  (∀ t, (s.target t).state ≠ .opened →
    (∀ i, (s.entry i).target = some t → (s.entry i).state = .free) ∧ (s.target t).egress = [] ∧ (s.target t).credits = 0) ∧
  (∀ i, (s.entry i).state ≠ .free → (s.entry i).target ≠ none) ∧
  (s.hub = .contained → ∀ t, (s.target t).state = .fenced)

/-- How often a place of the egress queue of target `t` refers to entry `i`. -/
def State.egressRefs (s : State) (t : TP) (i : Fin 32) : Nat :=
  (s.target t).egress.countP fun x =>
    match x with
    | .entry j _ => j = i
    | .posted _ _ _ _ => false

/-- Each QUEUED entry stands once in the egress queue of its target, and no other entry stands in any (R48); no egress
queue holds more than 8 places. -/
def State.egressKept (s : State) : Prop :=
  (∀ t, (s.target t).egress.length ≤ Config.egressDepth) ∧
  (∀ t i, s.egressRefs t i = if (s.entry i).state = .queued ∧ (s.entry i).target = some t then 1 else 0)

/-- A stage or reclaim deadline is present exactly in ISSUED, LATE and ABANDONED (R35, R66). -/
def State.deadlinesKept (s : State) : Prop :=
  ∀ i, (s.entry i).deadline.isSome = true ↔
    ((s.entry i).state = .issued ∨ (s.entry i).state = .late ∨ (s.entry i).state = .abandoned)

/-- The bounds of R152 on a link: the replay buffer, the replay count, the NAK outstanding; a silence deadline stands
exactly while the link is UP. -/
def Link.bounded (k : Link) : Prop :=
  k.replay.length ≤ Config.replayDepth ∧ k.replayCount ≤ 3 ∧ (∀ n, k.nak = some n → 1 ≤ n.count ∧ n.count ≤ 3) ∧
    (k.silence.isSome = true ↔ k.state = .up)

/-- Every link is within the bounds of R152. -/
def State.linksKept (s : State) : Prop := ∀ l, (s.link l).bounded

/-- Every setting is within its range (R19, R38, R61, R62, R63). -/
def State.settingsKept (s : State) : Prop :=
  (1 ≤ s.leaseMs ∧ s.leaseMs ≤ 1000) ∧ (1 ≤ s.reclaimMs ∧ s.reclaimMs ≤ 255) ∧
    (∀ c, 1 ≤ look s.classIntervals c ∧ look s.classIntervals c ≤ 4095) ∧
    (∀ p, 1 ≤ (s.port p).cap ∧ (s.port p).cap ≤ 32) ∧
    (∀ t, 1 ≤ (s.target t).fenceLimit ∧ (s.target t).fenceLimit ≤ 15)

/-- Every window of the active table satisfies the commit check (R2, R26). -/
def State.activeKept (s : State) : Prop :=
  ∀ w, let x := look s.active.windows w
    (x.valid = true → x.base.toNat ≤ x.limit.toNat) ∧ (x.atomic = true → x.readTarget = x.writeTarget)

/-- Target credits and advertisements lie in 0 to 16 (R49). -/
def State.targetCreditsKept (s : State) : Prop :=
  ∀ t, (s.target t).credits ≤ 16 ∧ (s.target t).advertisement ≤ 16

/-- What the tracker, the egress queues and the target units keep together (R35, R48, R69, R118). -/
def State.trackerKept (s : State) : Prop :=
  s.egressKept ∧ s.deadlinesKept ∧ s.abandonKept ∧ s.cutOffKept

/-! ## Reset values -/

/-- The values that a cold reset and a warm reset leave alike (R5, R20, R41, R65, R111, R118, R129, R137, R152). -/
def State.holdsResetValues (s : State) : Prop :=
  s.hub = .normal ∧
  (∀ w, let x := look s.active.windows w
    x.valid = false ∧ x.base = 0 ∧ x.limit = 0 ∧ x.readTarget = none ∧ x.writeTarget = none ∧ x.readRights = 0 ∧
      x.writeRights = 0 ∧ x.atomic = false ∧ x.cls = 0) ∧
  s.active.route.ceiling = 0 ∧ s.active.route.target = none ∧ s.version = 0 ∧
  s.claim = none ∧ (∀ p, s.rightsOf p = { configure := true, handle := true, test := true }) ∧
  s.rightsLock = false ∧ s.leaseMs = 200 ∧
  (∀ i, let e := s.entry i
    e.state = .free ∧ e.target = none ∧ e.generation = 0 ∧ e.lost = false ∧ e.deadline = none) ∧
  (∀ p, s.heldCount p = 0) ∧ s.lastGranted = 3 ∧
  s.classIntervals = #v[125, 625, 2500, 4095] ∧ s.reclaimMs = 50 ∧
  (∀ p, let u := s.port p
    u.ingress = [] ∧ u.reckoning = 8 ∧ u.due = 0 ∧ u.responses = [] ∧ u.lastKind = .alert ∧
      (∀ b : Bank, (look u.alerts b.idx).isEmpty = true) ∧ u.snapshot = none ∧ u.cap = 8) ∧
  (∀ t, let u := s.target t
    u.state = .down ∧ u.egress = [] ∧ u.credits = 0 ∧ u.advertisement = 0 ∧ u.abandon = 0 ∧ u.fenceLimit = 4) ∧
  (∀ l, let k := s.link l
    k.state = .down ∧ k.ownAcked = false ∧ k.confirmed = false ∧ k.nextNumber = 0 ∧ k.expected = 0 ∧ k.replay = [] ∧
      k.replayCount = 0 ∧ k.nak = none ∧ k.silence = none ∧ k.resetPending = true)

/-! ## Heads and their answers -/

/-- Item `x` is the head of the ingress queue of port `p`. -/
abbrev State.atHead (s : State) (p : RP) (x : Item) : Prop := (s.port p).ingress.head? = some x

/-- The response queue of port `p` has room (R145). -/
abbrev State.hasRoom (s : State) (p : RP) : Prop := (s.port p).responses.length + s.heldCount p < 40

/-- A CONFIG WRITE of the record `number` is at the head of port `p` with room for its answer (R144). -/
abbrev State.servesWrite (s : State) (p : RP) (tag : Tag) (number : BitVec 16) (data : List Byte) : Prop :=
  s.atHead p (.configWrite tag number data) ∧ s.hasRoom p

/-- A CONFIG READ of the record `number` is at the head of port `p` with room for its answer (R144). -/
abbrev State.servesRead (s : State) (p : RP) (tag : Tag) (number : BitVec 16) : Prop :=
  s.atHead p (.configRead tag number) ∧ s.hasRoom p

/-- The command of code `code` is at the head of port `p` with room for its answer (R168). -/
abbrev State.servesCommand (s : State) (p : RP) (tag : Tag) (code : Byte) (data : List Byte) : Prop :=
  s.servesWrite p tag 0x0008 data ∧ byteAt data 0 = code

/-- A port unit once its head has left with the given answers: they join the tail of the response queue, the next item
becomes the head, the outcome held with the old head is gone, and one credit is due (R138). -/
def RequesterPort.withoutHead (u : RequesterPort) (answers : List Answer) : RequesterPort :=
  { u with
    ingress := u.ingress.tail
    due := u.due + 1
    responses := u.responses ++ answers
    outcome := none
    offerDue := true }

/-- The head of port `p` leaves answered. -/
def State.answered (s : State) (p : RP) (tag : Tag) (status : Status) (data : List Byte) : State :=
  s.setPort p ((s.port p).withoutHead [{ tag, status, data }])

/-- The head of port `p` leaves without an answer. -/
def State.discarded (s : State) (p : RP) : State := s.setPort p ((s.port p).withoutHead [])

/-- The CONFIG READ at the head of port `p` leaves answered; a read takes eight numbers of free bytes (log entry 5). -/
def State.readAnswered (s : State) (p : RP) (tag : Tag) (status : Status) (data : List Byte) : State :=
  ({ s with freeCount := s.freeCount + 8 }).answered p tag status data

/-- The state in which entry `i` has returned to FREE, its target and generation kept and its deadline gone, with an answer
for its port unless requester lost is set (R37, R39, R53); every waiting head is due an offer (R8). -/
def State.entryAnswered (s : State) (i : Fin 32) (status : Status) (data : List Byte) : State :=
  let e := s.entry i
  let s₁ := s.setEntry i { e with state := .free, deadline := none }
  (if e.lost then s₁
  else s₁.setPort e.port { s.port e.port with
    responses := (s.port e.port).responses ++ [{ tag := e.tag, status, data }] }).offerAll

/-- The data of an answer the hub makes for a request: FFh for each byte of a READ or SWAP, none for a WRITE (R15). -/
def allOnes (kind : MemKind) (length : Nat) : List Byte :=
  if kind = .write then [] else List.replicate length 0xFF

/-- The data a target's response to an entry must carry (R52). -/
def Entry.expectsData (e : Entry) (data : List Byte) : Prop :=
  data.length = if e.kind = .write then 0 else e.length

/-- A return of `c` credits that target `t` may make (R49). -/
def State.mayReturn (s : State) (t : TP) (c : Nat) : Prop :=
  c ≤ 16 ∧ (c = 0 ∨ (s.target t).credits + c ≤ (s.target t).advertisement)

/-- The state with `c` credits of target `t` returned (R49). -/
def State.credited (s : State) (t : TP) (c : Nat) : State :=
  s.setTarget t { s.target t with credits := (s.target t).credits + c }

/-- The response of entry `i`'s current use with a status, a credit return and data (section 9.6). -/
def State.responseFor (s : State) (i : Fin 32) (status credit : Byte) (data : List Byte) : RawResponse :=
  { index := byteOf i.val, generation := byteOf (s.entry i).generation.val, status, credit, data }

/-- Tag `g` is live for port `p` (R141). -/
def State.liveTag (s : State) (p : RP) (g : Tag) : Prop :=
  (∃ x ∈ (s.port p).ingress, x.tag = some g) ∨
  (∃ i, (s.entry i).port = p ∧ (s.entry i).tag = g ∧
    ((s.entry i).state = .queued ∨ (s.entry i).state = .issued ∨ (s.entry i).state = .late)) ∨
  ∃ a ∈ (s.port p).responses, a.tag = g

/-- A window of a table is valid and contains a page (R2). -/
def Table.windowHolds (t : Table) (w : Fin 16) (page : Nat) : Prop :=
  (look t.windows w).valid = true ∧ (look t.windows w).base.toNat ≤ page ∧ page ≤ (look t.windows w).limit.toNat

/-! ## The rows that serve CONFIG requests -/

/-- The row of the opcode table that serves a CONFIG WRITE of the record `number` with the given data (R166, R168). -/
def writeRow (p : RP) (number : BitVec 16) (data : List Byte) : Instr :=
  match recordOf number with
  | some .command =>
    match Command.ofByte (byteAt data 0) with
    | some .claim => .claim p
    | some .commit => .commit p
    | some .abort => .abort p
    | some .lockRights => .lockRights p
    | some .pop => .pop p
    | some .clearOverflow => .clearOverflow p
    | some .inject => .inject p
    | some .resetCounter => .resetCounter p
    | some .fence => .fence p
    | some .reopen => .reopen p
    | none => .configWrite p
  | some (.port _) => .capWrite p
  | some (.rights _) => .rightsWrite p
  | some (.classInterval _) => .classIntervalWrite p
  | some .reclaimInterval => .reclaimIntervalWrite p
  | some .leaseInterval => .leaseIntervalWrite p
  | some (.target _) => .fenceLimitWrite p
  | some (.mask _) => .maskWrite p
  | some (.alert _) => .alertFloorRouteWrite p
  | some (.counter _) => .counterSettingsWrite p
  | some (.shadowRange _) => .shadowWrite p
  | some (.shadowRouting _) => .shadowWrite p
  | some .shadowDefault => .shadowWrite p
  | _ => .configWrite p

/-- The row of the opcode table that serves a CONFIG READ of the record `number` (R166; log entry 8). -/
def readRow (p : RP) (number : BitVec 16) : Instr :=
  match recordOf number with
  | some (.headFirst _) => .headFirstPartRead p
  | some (.activeRange _) => .activeTableRead p
  | some (.activeRouting _) => .activeTableRead p
  | some .activeDefault => .activeTableRead p
  | some (.shadowRange _) => .shadowRead p
  | some (.shadowRouting _) => .shadowRead p
  | some .shadowDefault => .shadowRead p
  | _ => .configWrite p

/-- The right a row needs (R32); none where it needs none. -/
def rightOfRow (i : Instr) : Option (Rights → Bool) :=
  match i with
  | .claim _ => some Rights.configure
  | .rightsWrite _ => some Rights.configure
  | .lockRights _ => some Rights.configure
  | .capWrite _ => some Rights.configure
  | .classIntervalWrite _ => some Rights.configure
  | .reclaimIntervalWrite _ => some Rights.configure
  | .leaseIntervalWrite _ => some Rights.configure
  | .fenceLimitWrite _ => some Rights.configure
  | .maskWrite _ => some Rights.configure
  | .alertFloorRouteWrite _ => some Rights.configure
  | .counterSettingsWrite _ => some Rights.configure
  | .pop _ => some Rights.handle
  | .clearOverflow _ => some Rights.handle
  | .resetCounter _ => some Rights.handle
  | .fence _ => some Rights.handle
  | .reopen _ => some Rights.handle
  | .inject _ => some Rights.test
  | _ => none

end Sys2Proof.Machine

namespace Sys2Proof

/-- The rules of form that make a REQUEST MALFORMED, in the order of R140's list. -/
def RawRequest.breaksForm (r : RawRequest) : Prop :=
  let kind := r.kind.toNat
  let length := r.length.toNat
  let address := r.address.toNat
  ¬(1 ≤ kind ∧ kind ≤ 6) ∨
  ((kind = 1 ∨ kind = 2 ∨ kind = 4 ∨ kind = 5 ∨ kind = 6) ∧ 63 < r.tag.toNat) ∨
  ((kind = 1 ∨ kind = 2 ∨ kind = 3) ∧
    (length < 1 ∨ 64 < length ∨ address / 64 ≠ (address + length - 1) / 64)) ∨
  (kind = 4 ∧ ((length ≠ 4 ∧ length ≠ 8) ∨ ¬length ∣ address)) ∨
  ((kind = 5 ∨ kind = 6) ∧ length ≠ 8) ∨
  ((kind = 1 ∨ kind = 5) ∧ r.data ≠ []) ∨
  ((kind = 2 ∨ kind = 3 ∨ kind = 4 ∨ kind = 6) ∧ (r.data = [] ∨ r.data.length ≠ length))

end Sys2Proof
end

