-- ==== Sys2Proof/WellFormed.lean ====
section
/-! DEFINITION. Which commands a frame of the hub link can carry: the operands whose size the frame layout of section
9.6 bounds. Every other operand is bounded by its type. -/

namespace Sys2Proof

/-- The data of a REQUEST from a master follows 8 bytes of a payload of at most 74 (R153, section 9.6). -/
def RawRequest.wellFormed (r : RawRequest) : Bool := r.data.length + 8 ≤ Config.maxPayload

/-- The data of a RESPONSE from a target follows 4 bytes of a payload of at most 74 (R153, section 9.6). -/
def RawResponse.wellFormed (r : RawResponse) : Bool := r.data.length + 4 ≤ Config.maxPayload

/-- The payload length of a frame is one byte (R153): a longer payload is no frame. -/
def payloadWellFormed (payload : List Byte) : Bool := payload.length ≤ 255

/-- A command whose operands some packet or frame carries. -/
def Instr.wellFormed (i : Instr) : Bool :=
  match i with
  | .requestArrival _ r => r.wellFormed
  | .responseIntake _ r => r.wellFormed
  | .packetFrameReceived _ _ _ payload => payloadWellFormed payload
  | .coldReset => true
  | .warmReset => true
  | .offer _ => true
  | .grant => true
  | .postedWriteGrant => true
  | .send _ => true
  | .postedWriteSend _ => true
  | .creditReturn _ _ => true
  | .stage1Expiry _ => true
  | .stage2Expiry _ => true
  | .reclaimExpiry _ => true
  | .containedHeadHandling _ => true
  | .refusalPlaceAnswer _ => true
  | .claim _ => true
  | .commit _ => true
  | .abort _ => true
  | .lockRights _ => true
  | .shadowWrite _ => true
  | .shadowRead _ => true
  | .activeTableRead _ => true
  | .rightsWrite _ => true
  | .leaseIntervalWrite _ => true
  | .capWrite _ => true
  | .classIntervalWrite _ => true
  | .reclaimIntervalWrite _ => true
  | .fenceLimitWrite _ => true
  | .maskWrite _ => true
  | .alertFloorRouteWrite _ => true
  | .counterSettingsWrite _ => true
  | .configWrite _ => true
  | .headFirstPartRead _ => true
  | .pop _ => true
  | .clearOverflow _ => true
  | .inject _ => true
  | .resetCounter _ => true
  | .fence _ => true
  | .reopen _ => true
  | .leaseExpiry => true
  | .leakExpiry _ => true
  | .creditSend _ => true
  | .responseSend _ => true
  | .alertSend _ => true
  | .trainSend _ => true
  | .trainReceived _ _ => true
  | .ack255Received _ => true
  | .linkResetSend _ => true
  | .linkResetReceived _ => true
  | .idleReceived _ _ => true
  | .crcFailureReceived _ => true
  | .ackReceived _ _ => true
  | .nakReceived _ _ => true
  | .nakSend _ => true
  | .ackSend _ => true
  | .idleSend _ => true
  | .replayTimeout _ => true
  | .silenceDeadline _ => true

end Sys2Proof
end

