-- ==== Sys2Proof/Certificates/Slice0/Obligations.lean ====
section
/-! DEFINITION. The statements for the provers: what the commands of the FT-248 do, by the numbered rules of the spec. -/

open Sys2Proof Sys2Proof.Machine

/-! ## The step and the resets -/

/-- A step with a command at the front of the queue is that command on the state with the queue's rest; on an empty queue a
step is one microsecond (the model's choice, log entry 3). -/
def Obligations.StepRunsTheFrontCommand : Prop :=
  (∀ (s : State) (c : Instr) (rest : List Instr),
    s.pending = c :: rest → step s = exec c { s with pending := rest }) ∧
  (∀ s : State, s.pending = [] → step s = .next { s with clock := s.clock + 1 })

/-- Every command answers a next state, leaves the queue of commands alone, resets included, and moves the clock only by a
cold reset (R81; that commands take no time: log entry 3; that the resets leave the queue: log entry 33). -/
def Obligations.EveryCommandCompletesAndKeepsQueueAndClock : Prop :=
  ∀ (c : Instr) (s : State),
    ∃ t, exec c s = .next t ∧ t.pending = s.pending ∧ (c ≠ .coldReset → t.clock = s.clock)

/-- What the two resets leave: the reset values, and for a warm reset the banks, the sequence counter and the stamp as they
stood, but for a leak that restarts (R5, R20, R41, R65, R79, R80, R81, R92, R101, R111, R118, R129, R137, R152). -/
def Obligations.ResetsLeaveTheResetValues : Prop :=
  ∀ s : State,
    (∃ t, exec .coldReset s = .next t ∧ t.holdsResetValues ∧ t.clock = 0 ∧ t.sequence = 0 ∧
      ∀ b, t.bank b =
        { records := [], overflow := false, mask := 0, floor := some .uncorrected, route := 0,
          counter :=
            { enable := true, count := 0, threshold := 4095, leakMs := 0, leakDeadline := none, tripped := false } }) ∧
    (∃ t, exec .warmReset s = .next t ∧ t.holdsResetValues ∧ t.clock = s.clock ∧ t.sequence = s.sequence ∧
      ∀ b, t.bank b =
        { s.bank b with
          counter := { (s.bank b).counter with
            leakDeadline :=
              if (s.bank b).counter.leakMs = 0 then none else some (s.clock + 1000 * (s.bank b).counter.leakMs) } })

/-! ## Arrival -/

/-- A REQUEST is MALFORMED exactly when it breaks a rule of form; otherwise the item it joins the queue as is the request
it carries; and what of it is legible: its tag, and its address, or the record number of a CONFIG request (R139, R140, R141,
R142; the number in the low bits of the address field: log entry 22). -/
def Obligations.RequestFormDecidesItemAndLegibility : Prop :=
  ∀ r : RawRequest,
    (r.item = none ↔ r.breaksForm) ∧
    (∀ i, r.item = some i →
      match i with
      | .mem k g a n d =>
        (match k with
          | .read => r.kind.toNat = 1
          | .write => r.kind.toNat = 2
          | .swap => r.kind.toNat = 4) ∧
          g.val = r.tag.toNat ∧ a = r.address ∧ n = r.length.toNat ∧ d = r.data
      | .posted a n d => r.kind.toNat = 3 ∧ a = r.address ∧ n = r.length.toNat ∧ d = r.data
      | .configRead g number =>
        r.kind.toNat = 5 ∧ g.val = r.tag.toNat ∧ number.toNat = r.address.toNat / 2 ^ 24
      | .configWrite g number d =>
        r.kind.toNat = 6 ∧ g.val = r.tag.toNat ∧ number.toNat = r.address.toNat / 2 ^ 24 ∧ d = r.data
      | .refusal _ => False) ∧
    (∀ g, r.legibleTag = some g ↔
      (r.kind.toNat = 1 ∨ r.kind.toNat = 2 ∨ r.kind.toNat = 4 ∨ r.kind.toNat = 5 ∨ r.kind.toNat = 6) ∧
        r.tag.toNat = g.val) ∧
    (1 ≤ r.kind.toNat → r.kind.toNat ≤ 4 → r.legibleAddress = some r.address) ∧
    ((r.kind.toNat = 5 ∨ r.kind.toNat = 6) →
      ∃ a, r.legibleAddress = some a ∧ a.toNat = r.address.toNat / 2 ^ 24) ∧
    ((r.kind.toNat < 1 ∨ 6 < r.kind.toNat) → r.legibleAddress = none)

/-- The arrival checks in their order: credit, form, tag; and the acceptance of what passes (R138 to R142). -/
def Obligations.RequestArrivalChecksCreditFormAndTag : Prop :=
  ∀ (s : State) (p : RP) (r : RawRequest), (s.link (.rp p)).state = .up →
    let u := s.port p
    let about (k : Kind) : Report :=
      { kind := k, severity := .uncorrected, port := some p, tag := r.legibleTag, address := r.legibleAddress }
    let joined (n : Nat) (x : Item) : State :=
      s.setPort p { u with
        reckoning := n
        ingress := u.ingress ++ [x]
        offerDue := u.offerDue || u.ingress.isEmpty }
    let refunded (n : Nat) : State := s.setPort p { u with reckoning := n, due := u.due + 1 }
    (u.reckoning = 0 → exec (.requestArrival p r) s = .next (s.report (.req p) (about .creditOverrun))) ∧
    (∀ n, u.reckoning = n + 1 → r.item = none →
      (∀ g, r.legibleTag = some g →
        exec (.requestArrival p r) s = .next ((joined n (.refusal g)).report (.req p) (about .malformed))) ∧
      (r.legibleTag = none →
        exec (.requestArrival p r) s = .next ((refunded n).report (.req p) (about .malformed)))) ∧
    (∀ n x, u.reckoning = n + 1 → r.item = some x →
      ((∃ g, x.tag = some g ∧ s.liveTag p g) →
        exec (.requestArrival p r) s = .next ((refunded n).report (.req p) (about .duplicateTag))) ∧
      ((¬∃ g, x.tag = some g ∧ s.liveTag p g) → exec (.requestArrival p r) s = .next (joined n x)))

/-! ## Decode and offers -/

/-- Decode searches the valid windows in ascending number, checks the last byte's page against the window found, and
applies the default route only where no valid window contains the first byte's page (R9, R10). -/
def Obligations.DecodeTakesTheLowestWindowOrTheDefaultRoute : Prop :=
  ∀ (s : State) (p : RP) (a : Access) (address : Address) (length : Nat),
    let first := address.toNat / 4096
    let last := (address.toNat + length - 1) / 4096
    let d := s.active.route
    (∀ w, s.active.windowHolds w first → (∀ v, v < w → ¬s.active.windowHolds v first) →
      (s.active.windowHolds w last →
        let x := look s.active.windows w
        s.decode p a address length = s.direct p a
          { readTarget := x.readTarget, writeTarget := x.writeTarget, readRights := x.readRights,
            writeRights := x.writeRights, atomic := x.atomic, cls := x.cls }) ∧
      (¬s.active.windowHolds w last → s.decode p a address length = .noRoute)) ∧
    ((∀ w, ¬s.active.windowHolds w first) →
      ((d.ceiling ≤ first ∨ d.ceiling ≤ last ∨ d.target = none) → s.decode p a address length = .noRoute) ∧
      (¬(d.ceiling ≤ first ∨ d.ceiling ≤ last ∨ d.target = none) →
        s.decode p a address length = s.direct p a
          { readTarget := d.target, writeTarget := d.target, readRights := 0xF, writeRights := 0xF, atomic := false,
            cls := 0 }))

/-- The outcome of a route by the request's direction, the port's rights and the target's state (R11, R12, R13). -/
def Obligations.DecodeAppliesDirectionRightsAndTargetState : Prop :=
  ∀ (s : State) (p : RP) (r : Routing),
    let outcome (target : Option TP) (allowed : Prop) (d : Decoded) : Prop :=
      (target = none → d = .noRoute) ∧
      (∀ t, target = some t →
        (¬allowed → d = .denied t) ∧
        (allowed → (s.target t).state = .opened → d = .success t r.cls) ∧
        (allowed → (s.target t).state ≠ .opened → d = .fenced))
    let mayRead := r.readRights.getLsbD p.val = true
    let mayWrite := r.writeRights.getLsbD p.val = true
    outcome r.readTarget mayRead (s.direct p .read r) ∧
    outcome r.writeTarget mayWrite (s.direct p .write r) ∧
    ((r.atomic = false ∨ r.readTarget ≠ r.writeTarget ∨ (r.readTarget = none ∧ r.writeTarget = none)) →
      s.direct p .swap r = .atomicRefused) ∧
    (∀ t, r.atomic = true → r.readTarget = some t → r.writeTarget = some t →
      outcome (some t) (mayRead ∧ mayWrite) (s.direct p .swap r))

/-- An offer by the outcome of its decode: success is held with the head; a failing READ, WRITE or SWAP is answered and
recorded where there is room, and waits without a trace where there is none; a failing POSTED WRITE is discarded and
recorded, room or none (R8, R14, R15, R16, R17; an offer that is due as an event of its own: log entry 10). -/
def Obligations.OffersHoldAnswerRecordOrWait : Prop :=
  ∀ (s : State) (p : RP) (address : Address) (length : Nat) (data : List Byte),
    s.hub = .normal → (s.port p).offerDue = true → s.active.sound = true →
    let about (tag : Option Tag) (k : Kind) (t : Option TP) : Report :=
      { kind := k, severity := .uncorrected, port := some p, tag := tag, target := t, address := some address,
        version := some s.version }
    let waiting (outcome : Option (TP × Fin 4)) : State :=
      s.setPort p { s.port p with outcome := outcome, offerDue := false }
    (∀ kind tag, s.atHead p (.mem kind tag address length data) →
      let access : Access :=
        match kind with
        | .read => .read
        | .write => .write
        | .swap => .swap
      let d := s.decode p access address length
      let left (status : Status) : State := s.answered p tag status (allOnes kind length)
      (∀ t cls, d = .success t cls → exec (.offer p) s = .next (waiting (some (t, cls)))) ∧
      (s.hasRoom p →
        (d = .noRoute →
          exec (.offer p) s = .next ((left .noRoute).report (.req p) (about (some tag) .noRoute none))) ∧
        (∀ t, d = .denied t →
          exec (.offer p) s = .next ((left .denied).report (.req p) (about (some tag) .denied (some t)))) ∧
        (d = .atomicRefused →
          exec (.offer p) s = .next ((left .refused).report (.req p) (about (some tag) .atomicRefused none))) ∧
        (d = .fenced → exec (.offer p) s = .next (left .fenced))) ∧
      (¬s.hasRoom p → (∀ t cls, d ≠ .success t cls) → exec (.offer p) s = .next (waiting none))) ∧
    (s.atHead p (.posted address length data) →
      let d := s.decode p .write address length
      let left : State := s.discarded p
      (∀ t cls, d = .success t cls → exec (.offer p) s = .next (waiting (some (t, cls)))) ∧
      (d = .noRoute → exec (.offer p) s = .next (left.report (.req p) (about none .noRoute none))) ∧
      (∀ t, d = .denied t → exec (.offer p) s = .next (left.report (.req p) (about none .denied (some t)))) ∧
      (d = .fenced → exec (.offer p) s = .next left) ∧
      d ≠ .atomicRefused)

/-! ## Grants and sends -/

/-- The readiness of a head, and the rotation that chooses among the ready heads (R42, R43). -/
def Obligations.GrantGoesToTheFirstReadyHeadInRotation : Prop :=
  ∀ s : State,
    (∀ p, s.ready p = true ↔
      s.hub = .normal ∧ ∃ t cls, (s.port p).outcome = some (t, cls) ∧ (s.target t).state = .opened ∧
        (s.target t).egress.length < 8 ∧
        ((∃ kind tag a n d, s.atHead p (.mem kind tag a n d) ∧ (∃ i, (s.entry i).state = .free) ∧
            s.heldCount p < (s.port p).cap ∧ s.hasRoom p) ∨
          ∃ a n d, s.atHead p (.posted a n d))) ∧
    (∀ p, s.grantee = some p ↔
      s.ready p = true ∧ ∀ q : RP, q - (s.lastGranted + 1) < p - (s.lastGranted + 1) → s.ready q = false) ∧
    (s.grantee = none ↔ ∀ p, s.ready p = false)

/-- A grant to a READ, WRITE or SWAP fills the lowest FREE entry with the next generation, queues it for its target, and
raises the port's held count, which was below its cap, by 1; a grant to a POSTED WRITE takes an egress place and no entry
(R37, R44, R45). -/
def Obligations.GrantsFillTheLowestFreeEntryOrAnEgressPlace : Prop :=
  ∀ (s : State) (p : RP) (t : TP) (cls : Fin 4) (a : Address) (n : Nat) (d : List Byte),
    s.grantee = some p → (s.port p).outcome = some (t, cls) →
    let queued (x : Place) : State → State := fun v =>
      { (v.setTarget t { s.target t with egress := (s.target t).egress ++ [x] }).discarded p with lastGranted := p }
    (∀ kind tag i, s.atHead p (.mem kind tag a n d) →
      (s.entry i).state = .free → (∀ j, j < i → (s.entry j).state ≠ .free) →
      let e : Entry :=
        { state := .queued, port := p, tag, kind, target := some t, generation := (s.entry i).generation + 1,
          address := a, length := n, cls, lost := false, deadline := none, parity := true }
      let u := queued (.entry i d) (s.setEntry i e)
      exec .grant s = .next u ∧ u.heldCount p = s.heldCount p + 1 ∧ s.heldCount p < (s.port p).cap) ∧
    (s.atHead p (.posted a n d) → exec .postedWriteGrant s = .next (queued (.posted a n d p) s))

/-- A send of the head of an egress queue: the REQUEST goes to the link, its place leaves the queue and one credit is spent;
an entry becomes ISSUED with its stage 1 deadline, and of a POSTED WRITE the hub keeps nothing; every waiting head is then due
an offer (R8, R50, R64, section 9.6; an offer as an event of its own: log entry 10). -/
def Obligations.SendsPutTheHeadOfEgressOnTheLink : Prop :=
  ∀ (s : State) (t : TP) (rest : List Place),
    let k := s.link (.tp t)
    (s.target t).state = .opened → 0 < (s.target t).credits →
    k.state = .up → k.confirmed = true → k.resetPending = false → k.replay.length < 64 →
    let sent (v : State) (payload : List Byte) : State :=
      ((v.sendPacket (.tp t) .request payload).setTarget t
        { s.target t with egress := rest, credits := (s.target t).credits - 1 }).offerAll
    (∀ i d, (s.target t).egress = .entry i d :: rest → (s.entry i).parity = true →
      let e := s.entry i
      let code : Byte :=
        match e.kind with
        | .read => 1
        | .write => 2
        | .swap => 4
      exec (.send t) s = .next
        (sent (s.setEntry i { e with state := .issued, deadline := some (s.clock + 8 * look s.classIntervals e.cls) })
          ([code, byteOf i.val, byteOf e.generation.val, byteOf e.port.val] ++ bytes40 e.address ++
            [byteOf e.length] ++ d))) ∧
    (∀ a n d origin, (s.target t).egress = .posted a n d origin :: rest →
      exec (.postedWriteSend t) s = .next
        (sent s ([3, 0xFF, 0xFF, byteOf origin.val] ++ bytes40 a ++ [byteOf n] ++ d))) ∧
    (∀ v : State, (∀ p, v.offerAll.port p = { v.port p with offerDue := true }) ∧
      { v.offerAll with ports := v.ports } = v)

/-- Credits returned: added up to the latest advertisement, a PROTOCOL breach beyond it or outside 1 to 16; and what a
target that is not OPEN sends is dropped, credits and responses alike (R49, R51, R123, R164). -/
def Obligations.CreditReturnsAddOrFence : Prop :=
  ∀ (s : State) (t : TP) (amount : Byte), (s.link (.tp t)).state = .up →
    let u := s.target t
    let n := amount.toNat
    (u.state ≠ .opened →
      exec (.creditReturn t amount) s = .next s ∧ ∀ x : RawResponse, exec (.responseIntake t x) s = .next s) ∧
    (u.state = .opened → 1 ≤ n → n ≤ 16 → u.credits + n ≤ u.advertisement →
      exec (.creditReturn t amount) s = .next (s.setTarget t { u with credits := u.credits + n })) ∧
    (u.state = .opened → (n < 1 ∨ 16 < n ∨ u.advertisement < u.credits + n) →
      exec (.creditReturn t amount) s = .next
        ((s.report (.tgt t)
          { kind := .protocol, severity := .fatal, target := some t, detail := some (s.fenceDetail t) }).fence t))

/-! ## Responses -/

/-- A matched response completes an ISSUED or LATE entry: the mapped answer unless requester lost, the entry FREE with its
target and generation kept, the port's held count 1 lower, and the record of a status that is not OK; a POISON then fences
the target, after the completion, with what the fence cuts off in its record (R51, R52, R53, R54, R55, R122). -/
def Obligations.MatchedResponseCompletesItsEntry : Prop :=
  ∀ (s : State) (t : TP) (i : Fin 32) (credit : Byte) (data : List Byte),
    let e := s.entry i
    let s₁ := s.credited t credit.toNat
    let failed := s₁.entryAnswered i .targetError (allOnes e.kind e.length)
    let about (k : Kind) (severity : Severity) : Report :=
      { kind := k, severity, port := some e.port, tag := some e.tag, target := some t, entry := some (i, e.generation),
        address := some e.address }
    (s.link (.tp t)).state = .up → (s.target t).state = .opened → s.mayReturn t credit.toNat →
    e.parity = true → e.target = some t → (e.state = .issued ∨ e.state = .late) → e.expectsData data →
    exec (.responseIntake t (s.responseFor i 0 credit data)) s = .next (s₁.entryAnswered i .ok data) ∧
    exec (.responseIntake t (s.responseFor i 1 credit data)) s = .next
      ((s₁.entryAnswered i .ok data).report (.tgt t) (about .targetCorrected .corrected)) ∧
    exec (.responseIntake t (s.responseFor i 2 credit data)) s = .next
      (failed.report (.tgt t) (about .targetError .uncorrected)) ∧
    exec (.responseIntake t (s.responseFor i 3 credit data)) s = .next
      ((failed.report (.tgt t)
        { about .targetPoison .fatal with detail := some (failed.fenceDetail t) }).fence t) ∧
    ∀ status bytes, (s₁.entryAnswered i status bytes).heldCount e.port + 1 = s.heldCount e.port

/-- A response for an ABANDONED entry frees it with a LATE RESPONSE record and places nothing, whatever its status; a
response of another generation, or for a FREE entry of this target, is STALE and changes no entry (R56, R57). -/
def Obligations.LateAndStaleResponsesAnswerNothing : Prop :=
  ∀ (s : State) (t : TP) (i : Fin 32) (status credit : Byte) (data : List Byte),
    let e := s.entry i
    let s₁ := s.credited t credit.toNat
    let freed := (s₁.setEntry i { e with state := .free, deadline := none }).offerAll
    (s.link (.tp t)).state = .up → (s.target t).state = .opened → s.mayReturn t credit.toNat → status.toNat ≤ 3 →
    e.parity = true → e.target = some t →
    (e.state = .abandoned → e.expectsData data →
      exec (.responseIntake t (s.responseFor i status credit data)) s = .next
        ((freed.setTarget t { freed.target t with abandon := (s.target t).abandon - 1 }).report (.tgt t)
          { kind := .lateResponse, severity := .corrected, port := some e.port, tag := some e.tag, target := some t,
            entry := some (i, e.generation), address := some e.address })) ∧
    (∀ g : Fin 4, (e.state = .free ∨ e.generation ≠ g) →
      exec (.responseIntake t { index := byteOf i.val, generation := byteOf g.val, status, credit, data }) s = .next
        (s₁.report (.tgt t)
          { kind := .staleResponse, severity := .corrected, target := some t, entry := some (i, g) }))

/-- The PROTOCOL breaches of a response (R58, R164): for an entry of another target or of none, for a QUEUED entry, with
wrong data, of a form no target may send, or with a credit return beyond the advertisement (R49). Each records the breach
with what it names and fences the target. -/
def Obligations.ProtocolBreachesFenceTheTarget : Prop :=
  ∀ (s : State) (t : TP) (i : Fin 32) (g : Fin 4) (status credit : Byte) (data : List Byte),
    let e := s.entry i
    let s₁ := s.credited t credit.toNat
    let r : RawResponse := { index := byteOf i.val, generation := byteOf g.val, status, credit, data }
    let breach : Report := { kind := .protocol, severity := .fatal, target := some t, detail := some (s₁.fenceDetail t) }
    (s.link (.tp t)).state = .up → (s.target t).state = .opened →
    (s.mayReturn t credit.toNat → status.toNat ≤ 3 → e.parity = true →
      (e.target ≠ some t →
        exec (.responseIntake t r) s = .next ((s₁.report (.tgt t) { breach with entry := some (i, g) }).fence t)) ∧
      (e.target = some t → e.state ≠ .free → e.generation = g → (e.state = .queued ∨ ¬e.expectsData data) →
        exec (.responseIntake t r) s = .next
          ((s₁.report (.tgt t)
            { breach with
              entry := some (i, g), port := some e.port, tag := some e.tag, address := some e.address }).fence t))) ∧
    (∀ x : RawResponse,
      (31 < x.index.toNat ∨ 3 < x.generation.toNat ∨ 3 < x.status.toNat ∨ ¬s.mayReturn t x.credit.toNat) →
      exec (.responseIntake t x) s = .next
        ((s.report (.tgt t) { breach with detail := some (s.fenceDetail t) }).fence t))

/-! ## Expiries -/

/-- A stage 1 expiry makes an ISSUED entry LATE with its stage 2 deadline and a SLOW RESPONSE record, and answers nothing; a
reclaim expiry frees an ABANDONED entry without a record or an answer (R64, R66, R67, R70). -/
def Obligations.StageOneAndReclaimExpiriesAnswerNothing : Prop :=
  ∀ (s : State) (i : Fin 32) (t : TP) (d : Nat),
    let e := s.entry i
    e.deadline = some d → d ≤ s.clock → e.parity = true → e.target = some t →
    (e.state = .issued →
      exec (.stage1Expiry i) s = .next
        ((s.setEntry i { e with state := .late, deadline := some (s.clock + 8 * look s.classIntervals e.cls) }).report
          (.tgt t)
          { kind := .slowResponse, severity := .corrected, port := some e.port, tag := some e.tag, target := some t,
            entry := some (i, e.generation), address := some e.address })) ∧
    (e.state = .abandoned →
      exec (.reclaimExpiry i) s = .next
        (((s.setEntry i { e with state := .free, deadline := none }).setTarget t
          { s.target t with abandon := (s.target t).abandon - 1 }).offerAll))

/-- A stage 2 expiry abandons a LATE entry: TIMED OUT for its master unless requester lost, a reclaim deadline, one more
abandoned entry and a TIMED OUT record; and at the fence limit an ABANDON LIMIT record and a fence (R64, R68, R69). -/
def Obligations.StageTwoExpiryAbandonsTheEntry : Prop :=
  ∀ (s : State) (i : Fin 32) (t : TP) (d : Nat),
    let e := s.entry i
    let u := s.target t
    let port := s.port e.port
    let about (k : Kind) (severity : Severity) : Report :=
      { kind := k, severity, port := some e.port, tag := some e.tag, target := some t, entry := some (i, e.generation),
        address := some e.address }
    let answer : Answer := { tag := e.tag, status := .timedOut, data := allOnes e.kind e.length }
    let s₁ := s.setEntry i { e with state := .abandoned, deadline := some (s.clock + 1000 * s.reclaimMs) }
    let s₂ := s₁.setPort e.port { port with
      responses := port.responses ++ (if e.lost then [] else [answer])
      offerDue := true }
    let s₃ := (s₂.setTarget t { u with abandon := u.abandon + 1 }).report (.tgt t) (about .timedOut .uncorrected)
    e.state = .late → e.deadline = some d → d ≤ s.clock → e.parity = true → e.target = some t →
    (u.abandon + 1 < u.fenceLimit → exec (.stage2Expiry i) s = .next s₃) ∧
    (u.fenceLimit ≤ u.abandon + 1 →
      exec (.stage2Expiry i) s = .next
        ((s₃.report (.tgt t)
          { about .abandonLimit .fatal with detail := some (s₃.fenceDetail t) }).fence t))

/-! ## Fences and containment -/

/-- What the fence of a target does, entry by entry, port by port and at the target itself, and what its detail counts: the
answers it places and the posted writes it discards; nothing else changes (R121, R82, R37, R39, R110). -/
def Obligations.FenceCutsTheTargetOff : Prop :=
  ∀ (s : State) (t : TP),
    let f := s.fence t
    let owed (i : Fin 32) : Bool :=
      let e := s.entry i
      e.target = some t && (e.state = .queued || e.state = .issued || e.state = .late) && !e.lost
    let isPosted (x : Place) : Bool :=
      match x with
      | .entry _ _ => false
      | .posted _ _ _ _ => true
    s.fenceDetail t =
      (((List.finRange 32).filter owed).length, ((s.target t).egress.filter isPosted).length) ∧
    (∀ i, let e := s.entry i
      f.entry i = if e.target = some t ∧ e.state ≠ .free then { e with state := .free, deadline := none } else e) ∧
    f.target t = { s.target t with state := .fenced, egress := [], credits := 0, abandon := 0 } ∧
    (∀ u, u ≠ t → f.target u = s.target u) ∧
    f.link (.tp t) =
      { s.link (.tp t) with
        resetPending := (s.link (.tp t)).resetPending || decide ((s.link (.tp t)).state ≠ .down) } ∧
    (∀ l, l ≠ .tp t → f.link l = s.link l) ∧
    (∀ p, (f.port p).responses = (s.port p).responses ++
      ((List.finRange 32).filter fun i => owed i && decide ((s.entry i).port = p)).map fun i =>
        { tag := (s.entry i).tag, status := .fenced, data := allOnes (s.entry i).kind (s.entry i).length }) ∧
    (∀ p, f.port p = { s.port p with
      responses := (f.port p).responses
      alerts := (f.port p).alerts
      offerDue := true }) ∧
    (∀ p b, look (f.port p).alerts b =
      if b = (Bank.tgt t).idx ∧ (s.bank (.tgt t)).route.getLsbD p.val = true ∧ (s.link (.rp p)).state = .up then
        (look (s.port p).alerts b).add .fence
      else look (s.port p).alerts b) ∧
    (∀ p, (f.port p).responses.length + f.heldCount p ≤ (s.port p).responses.length + s.heldCount p) ∧
    f = { s with entries := f.entries, targets := f.targets, links := f.links, ports := f.ports }

/-- What the containment of the hub does (R130): the STORAGE CHECK record with what it cut off, every entry ended, every
target FENCED, and the reasons raised; the table, the claim, the rights and the settings stay. -/
def Obligations.ContainmentCutsEverythingOff : Prop :=
  ∀ (s : State) (r : Report),
    let f := s.contain r
    let owed (i : Fin 32) : Bool :=
      let e := s.entry i
      (e.state = .queued || e.state = .issued || e.state = .late) && !e.lost
    let v := s.report .hub
      { r with
        kind := .storageCheck, severity := .fatal, detail := some (((List.finRange 32).filter owed).length, 0) }
    f.hub = .contained ∧
    (∀ i, let e := s.entry i
      f.entry i = if e.state ≠ .free then { e with state := .free, deadline := none } else e) ∧
    (∀ t, f.target t = { s.target t with state := .fenced, egress := [], credits := 0, abandon := 0 }) ∧
    (∀ t, f.link (.tp t) =
      { s.link (.tp t) with
        resetPending := (s.link (.tp t)).resetPending || decide ((s.link (.tp t)).state ≠ .down) }) ∧
    (∀ p, f.link (.rp p) = s.link (.rp p)) ∧
    (∀ p, (f.port p).responses = (s.port p).responses ++
      ((List.finRange 32).filter fun i => owed i && decide ((s.entry i).port = p)).map fun i =>
        { tag := (s.entry i).tag, status := .hubFault, data := allOnes (s.entry i).kind (s.entry i).length }) ∧
    (∀ p, f.port p = { s.port p with responses := (f.port p).responses, alerts := (f.port p).alerts }) ∧
    (∀ p (t : TP), look (f.port p).alerts (Bank.tgt t).idx =
      if (s.target t).state = .opened ∧ (s.bank (.tgt t)).route.getLsbD p.val = true ∧ (s.link (.rp p)).state = .up then
        (look (s.port p).alerts (Bank.tgt t).idx).add .fence
      else look (s.port p).alerts (Bank.tgt t).idx) ∧
    (∀ p, look (f.port p).alerts (Bank.hub).idx =
      if (s.bank .hub).route.getLsbD p.val = true ∧ (s.link (.rp p)).state = .up then
        (look (v.port p).alerts (Bank.hub).idx).add .contain
      else look (v.port p).alerts (Bank.hub).idx) ∧
    (∀ p (q : RP), look (f.port p).alerts (Bank.req q).idx = look (s.port p).alerts (Bank.req q).idx) ∧
    (∀ b, f.bank b = v.bank b) ∧
    f = { s with
      hub := f.hub, entries := f.entries, targets := f.targets, links := f.links, ports := f.ports, banks := f.banks,
      sequence := v.sequence }

/-- A damaged entry found by a send, a response or an expiry: the event itself changes nothing and its STORAGE CHECK, which
names the entry alone, by its index and the generation it holds, contains the hub; a response finds it whatever generation it
carries (R40, R51, R66, R129, R130; the generation of the record: log entry 26). -/
def Obligations.DamagedEntryContainsTheHub : Prop :=
  ∀ (s : State) (i : Fin 32) (t : TP) (d : Nat),
    let e := s.entry i
    let r : Report :=
      { kind := .storageCheck, severity := .fatal, entry := some (i, e.generation) }
    s.hub = .normal → e.parity = false →
    ((s.target t).state = .opened → 0 < (s.target t).credits →
      (s.link (.tp t)).state = .up → (s.link (.tp t)).confirmed = true → (s.link (.tp t)).resetPending = false →
      (s.link (.tp t)).replay.length < 64 →
      (∃ data rest, (s.target t).egress = .entry i data :: rest) → exec (.send t) s = .next (s.contain r)) ∧
    (∀ (g : Fin 4) (status credit : Byte) (data : List Byte),
      (s.link (.tp t)).state = .up → (s.target t).state = .opened →
      s.mayReturn t credit.toNat → status.toNat ≤ 3 →
      exec (.responseIntake t { index := byteOf i.val, generation := byteOf g.val, status, credit, data }) s =
        .next ((s.credited t credit.toNat).contain r)) ∧
    (e.deadline = some d → d ≤ s.clock →
      (e.state = .issued → exec (.stage1Expiry i) s = .next (s.contain r)) ∧
      (e.state = .late → exec (.stage2Expiry i) s = .next (s.contain r)) ∧
      (e.state = .abandoned → exec (.reclaimExpiry i) s = .next (s.contain r)))

/-- A damaged table or shadow found by an offer or by a CONFIG request: HUB FAULT for the request, or a discard, and a
STORAGE CHECK with the port, the tag and, for a decoded request, the address; it contains the hub, or is a record alone
while CONTAINED (R7, R22, R25, R28, R130, R133; the answer behind those of the containment: log entry 23; the free value
counter of a read: 5). -/
def Obligations.DamagedTableOrShadowContainsTheHub : Prop :=
  ∀ (s : State) (p : RP) (tag : Tag) (data : List Byte) (w : Fin 16) (c : Claim),
    let r : Report := { kind := .storageCheck, severity := .fatal, port := some p, tag := some tag }
    let v := if s.hub = .normal then s.contain r else s.report .hub { r with detail := some (0, 0) }
    let active (k : Nat) := BitVec.ofNat 16 (0x0200 + 2 * w.val + k)
    let shadow (k : Nat) := BitVec.ofNat 16 (0x0300 + 2 * w.val + k)
    (∀ t : Table, t.sound = true ↔ (∀ w, (look t.windows w).parity = true) ∧ t.route.parity = true) ∧
    (s.hub = .normal → (s.port p).offerDue = true → s.active.sound = false →
      let waiting := s.setPort p { s.port p with outcome := none, offerDue := false }
      (∀ kind a n, s.atHead p (.mem kind tag a n data) →
        let v := waiting.contain { r with address := some a }
        (s.hasRoom p → exec (.offer p) s = .next (v.answered p tag .hubFault (allOnes kind n))) ∧
        (¬s.hasRoom p → exec (.offer p) s = .next v)) ∧
      (∀ a n, s.atHead p (.posted a n data) →
        exec (.offer p) s = .next ((waiting.contain { r with tag := none, address := some a }).discarded p))) ∧
    (s.hub = .normal → s.servesCommand p tag 0x02 data → s.claim = some c → c.holder = p → c.shadow.sound = false →
      exec (.commit p) s = .next (v.answered p tag .hubFault [])) ∧
    (∀ k, k ≤ 1 → s.servesRead p tag (active k) → (look s.active.windows w).parity = false →
      exec (.activeTableRead p) s = .next (v.readAnswered p tag .hubFault (ones 8))) ∧
    (∀ k, k ≤ 1 → s.servesRead p tag (shadow k) → s.claim = some c → c.holder = p →
      (look c.shadow.windows w).parity = false →
      exec (.shadowRead p) s = .next (v.readAnswered p tag .hubFault (ones 8))) ∧
    (s.servesRead p tag 0x0220 → s.active.route.parity = false →
      exec (.activeTableRead p) s = .next (v.readAnswered p tag .hubFault (ones 8))) ∧
    (s.servesRead p tag 0x0320 → s.claim = some c → c.holder = p → c.shadow.route.parity = false →
      exec (.shadowRead p) s = .next (v.readAnswered p tag .hubFault (ones 8)))

/-- The heads of a CONTAINED hub: HUB FAULT where there is room, a POSTED WRITE discarded, nothing decoded or granted, and
nothing sent to a target, given the invariant that every target is then FENCED; and a refusal place answered REFUSED
whatever the hub is (R6, R131, R132, R143; the handling of a head as a command of its own: log entry 9). -/
def Obligations.ContainedHeadsAndRefusalPlacesAreAnswered : Prop :=
  ∀ (s : State) (p : RP),
    (∀ kind tag a n d, s.hub = .contained → s.atHead p (.mem kind tag a n d) →
      (s.hasRoom p →
        exec (.containedHeadHandling p) s = .next (s.answered p tag .hubFault (allOnes kind n))) ∧
      (¬s.hasRoom p → exec (.containedHeadHandling p) s = .next s)) ∧
    (∀ a n d, s.hub = .contained → s.atHead p (.posted a n d) →
      exec (.containedHeadHandling p) s = .next (s.discarded p)) ∧
    (∀ tag, s.atHead p (.refusal tag) →
      (s.hasRoom p → exec (.refusalPlaceAnswer p) s = .next (s.answered p tag .refused [])) ∧
      (¬s.hasRoom p → exec (.refusalPlaceAnswer p) s = .next s)) ∧
    (s.hub = .contained →
      exec (.offer p) s = .next s ∧ exec .grant s = .next s ∧ exec .postedWriteGrant s = .next s) ∧
    (∀ t, s.hub = .contained → s.cutOffKept →
      exec (.send t) s = .next s ∧ exec (.postedWriteSend t) s = .next s)

/-! ## Serving CONFIG requests -/

/-- Every CONFIG request at a head with room is served by the row of its record: it leaves, one credit becomes due, and its
answer, which carries its tag, joins the tail of the response queue: without data for a CONFIG WRITE, with 8 bytes for a
CONFIG READ, FFh where the status is not OK. A row that neither fences nor contains adds that one answer and no other
(R125, R130, R144, R165; the row of a plain read or a refused request: log entry 8). -/
def Obligations.EveryConfigRequestIsServedByItsRow : Prop :=
  ∀ (s t : State) (p : RP) (tag : Tag) (number : BitVec 16),
    (∀ data, s.servesWrite p tag number data → exec (writeRow p number data) s = .next t →
      (t.port p).ingress = (s.port p).ingress.tail ∧ (t.port p).due = (s.port p).due + 1 ∧
        ∃ status ended, (t.port p).responses = (s.port p).responses ++ ended ++ [{ tag, status, data := [] }] ∧
          (writeRow p number data ≠ .fence p → t.hub = s.hub → ended = [])) ∧
    (s.servesRead p tag number → exec (readRow p number) s = .next t →
      (t.port p).ingress = (s.port p).ingress.tail ∧ (t.port p).due = (s.port p).due + 1 ∧
        ∃ status bytes ended,
          (t.port p).responses = (s.port p).responses ++ ended ++ [{ tag, status, data := bytes }] ∧
          bytes.length = 8 ∧ (status ≠ .ok → bytes = List.replicate 8 0xFF) ∧ (t.hub = s.hub → ended = []))

/-- Refusals that change nothing: while CONTAINED every CONFIG WRITE but POP is answered HUB FAULT before anything else is
looked at; a row that needs a right answers DENIED to a port without it, whatever its operands; and what the record space
does not map, does not let be written or does not name as a command is INVALID (R21, R32, R93, R131, R165, R166, R168; the
row that answers them: log entry 8; the free value counter of a read: 5). -/
def Obligations.RefusedConfigRequestsInTheirOrder : Prop :=
  ∀ (s : State) (p : RP) (tag : Tag) (number : BitVec 16) (data : List Byte),
    let n := number.toNat
    let setting : Prop :=
      (0x0010 ≤ n ∧ n < 0x0014) ∨ (0x0018 ≤ n ∧ n < 0x001C) ∨ (0x0020 ≤ n ∧ n < 0x0026) ∨ (0x0030 ≤ n ∧ n < 0x0036) ∨
      (0x0300 ≤ n ∧ n ≤ 0x0320)
    let writable : Prop := n = 0x0008 ∨ setting ∨ (0x0100 ≤ n ∧ n < 0x0158 ∧ 4 ≤ n % 8 ∧ n % 8 ≤ 6)
    let readable : Prop :=
      n = 0x0000 ∨ (0x0002 ≤ n ∧ n ≤ 0x0005) ∨ setting ∨ (0x0100 ≤ n ∧ n < 0x0158 ∧ n % 8 ≤ 6) ∨
      (0x0200 ≤ n ∧ n ≤ 0x0220)
    (s.servesWrite p tag number data → s.hub = .contained → writeRow p number data ≠ .pop p →
      exec (writeRow p number data) s = .next (s.answered p tag .hubFault [])) ∧
    (∀ right, s.servesWrite p tag number data → s.hub = .normal →
      rightOfRow (writeRow p number data) = some right → right (s.rightsOf p) = false →
      exec (writeRow p number data) s = .next (s.answered p tag .denied [])) ∧
    (s.hub = .normal → s.servesWrite p tag number data →
      (¬writable ∨ (n = 0x0008 ∧ (byteAt data 0).toNat ∉ [1, 2, 3, 4, 0x10, 0x11, 0x12, 0x13, 0x20, 0x21])) →
      exec (.configWrite p) s = .next (s.answered p tag .invalid [])) ∧
    (s.servesRead p tag number → ¬readable →
      exec (.configWrite p) s = .next (s.readAnswered p tag .invalid (ones 8)))

/-- The status and settings records as they stand at the read: identity, sequence and stamp, hub state, edit state,
occupancy, a port, a target, the rights, the intervals, and a bank's status, mask, alert and counter records; the bytes
section 10.3 does not list are left open (R19, R33, R60, R61, R62, R80, R81, R90, R99, R106, R129, R151, R169, R170, section
10.3; the open bytes: log entry 5; the row that serves them: 8; the zero bits: 25; a lease deadline passed: 32; a port's
read of its own record counts itself: 39). -/
def Obligations.StatusReadsReturnWhatStands : Prop :=
  ∀ (s : State) (p q : RP) (t : TP) (cls : Fin 4) (b : Bank) (tag : Tag),
    let reads (number : BitVec 16) (bytes : List Byte) : Prop :=
      s.servesRead p tag number → exec (.configWrite p) s = .next (s.readAnswered p tag .ok bytes)
    let begins (number : Nat) (bytes : List Byte) : Prop :=
      s.servesRead p tag (BitVec.ofNat 16 number) →
        ∃ rest, (bytes ++ rest).length = 8 ∧
          exec (.configWrite p) s = .next (s.readAnswered p tag .ok (bytes ++ rest))
    let u := s.port q
    let v := s.target t
    let count (x : EntryState) : Byte := byteOf (((List.finRange 32).filter fun i => (s.entry i).state = x).length)
    let linkState (x : LinkState) : Byte :=
      match x with
      | .down => 0
      | .training => 1
      | .up => 2
    let targetState (x : TargetState) : Byte :=
      match x with
      | .down => 0
      | .opened => 1
      | .fenced => 2
    s.heldCount q = ((List.finRange 32).filter fun i =>
      let e := s.entry i
      (e.state = .queued || e.state = .issued || e.state = .late) && e.port = q).length ∧
    reads 0x0000 [0xF2, 0x48, 0x01, 4, 6, 32, 16, 11] ∧
    reads 0x0002 (bytes16 s.sequence ++ bytes32 (BitVec.ofNat 32 s.clock) ++ [0, 0]) ∧
    reads 0x0003 [if s.hub = .contained then 1 else 0, 0, 0, 0, 0, 0, 0, 0] ∧
    (s.claim = none →
      reads 0x0004 ([0xFF, 0, 0, if s.rightsLock then 1 else 0] ++ bytes16 s.version ++ [0, 0])) ∧
    (∀ c, s.claim = some c →
      reads 0x0004
        ([byteOf c.holder.val] ++ bytes16 (BitVec.ofNat 16 ((c.deadline - s.clock + 999) / 1000)) ++
          [if s.rightsLock then 1 else 0] ++ bytes16 s.version ++ [0, 0])) ∧
    (∃ held : List Byte, held.length = 3 ∧
      (held.map BitVec.toNat =
        let w := s.heldCount 0 * 2 ^ 18 + s.heldCount 1 * 2 ^ 12 + s.heldCount 2 * 2 ^ 6 + s.heldCount 3
        [w / 65536, w / 256 % 256, w % 256]) ∧
      reads 0x0005 ([count .free, count .queued, count .issued, count .late, count .abandoned] ++ held)) ∧
    reads (BitVec.ofNat 16 (0x0010 + q.val))
      [linkState (s.link (.rp q)).state, byteOf u.cap, byteOf (s.heldCount q), byteOf u.ingress.length,
       byteOf u.responses.length, byteOf u.reckoning, byteOf u.due, 0] ∧
    reads (BitVec.ofNat 16 (0x0030 + t.val))
      [targetState v.state, linkState (s.link (.tp t)).state, byteOf v.abandon, byteOf v.credits,
       byteOf v.advertisement, byteOf v.fenceLimit, 0, 0] ∧
    (let r := s.rightsOf q
    begins (0x0018 + q.val)
      [byteOf ((if r.configure then 1 else 0) + (if r.handle then 2 else 0) + (if r.test then 4 else 0))]) ∧
    begins (0x0020 + cls.val) (bytes16 (BitVec.ofNat 16 (look s.classIntervals cls))) ∧
    begins 0x0024 [byteOf s.reclaimMs] ∧
    begins 0x0025 (bytes16 (BitVec.ofNat 16 s.leaseMs)) ∧
    (let k := s.bank b
    let place : Nat :=
      match b with
      | .req p => p.val
      | .tgt t => 4 + t.val
      | .hub => 10
    let number (part : Nat) := 0x0100 + 8 * place + part
    let floor : Byte :=
      match k.floor with
      | some .corrected => 0
      | some .uncorrected => 1
      | some .fatal => 2
      | none => 3
    b.idx.val = place ∧
    begins (number 3)
      ([byteOf k.records.length, if k.overflow then 1 else 0, floor, k.route.setWidth 8] ++ bytes32 k.mask) ∧
    begins (number 4) (bytes32 k.mask) ∧
    begins (number 5) [floor, k.route.setWidth 8] ∧
    begins (number 6)
      ([byteOf ((if k.counter.enable then 1 else 0) + (if k.counter.tripped then 2 else 0))] ++
        bytes16 (BitVec.ofNat 16 k.counter.count) ++ bytes16 (BitVec.ofNat 16 k.counter.threshold) ++
        [byteOf k.counter.leakMs]))

/-! ## The edit unit -/

/-- CLAIM by a port with CONFIGURE: a fresh copy of the active table where none holds it, HUB FAULT and containment where
the copy finds a parity failure, a restarted lease with the shadow kept for the holder, BUSY for any other port (R22; the
HUB FAULT behind the answers of the containment: log entry 23). -/
def Obligations.ClaimCopiesRestartsOrIsBusy : Prop :=
  ∀ (s : State) (p : RP) (tag : Tag) (data : List Byte),
    s.servesCommand p tag 0x01 data → s.hub = .normal → (s.rightsOf p).configure = true →
    let held (x : Table) : State :=
      { s with claim := some { holder := p, deadline := s.clock + 1000 * s.leaseMs, shadow := x } }
    (s.claim = none → s.active.sound = true →
      exec (.claim p) s = .next ((held s.active).answered p tag .ok [])) ∧
    (s.claim = none → s.active.sound = false →
      exec (.claim p) s = .next
        ((s.contain { kind := .storageCheck, severity := .fatal, port := some p, tag := some tag }).answered p tag
          .hubFault [])) ∧
    (∀ c, s.claim = some c →
      (c.holder = p → exec (.claim p) s = .next ((held c.shadow).answered p tag .ok [])) ∧
      (c.holder ≠ p → exec (.claim p) s = .next (s.answered p tag .busy [])))

/-- COMMIT by the holder of a sound shadow: the whole table, the next version and the end of the claim where the commit
check passes, INVALID and a restarted lease where it does not; BUSY for any other port (R4, R21, R26, R27; the outcome
held with a head dropped until its next offer: log entry 10). -/
def Obligations.CommitInstallsTheWholeShadowOrNothing : Prop :=
  ∀ (s : State) (p : RP) (tag : Tag) (data : List Byte) (c : Claim),
    s.servesCommand p tag 0x02 data → s.hub = .normal →
    let passes : Prop := ∀ w, let x := look c.shadow.windows w
      (x.valid = true → x.base.toNat ≤ x.limit.toNat) ∧ (x.atomic = true → x.readTarget = x.writeTarget)
    let installed : State := { s with active := c.shadow, version := s.version + 1, claim := none }
    (s.claim = some c → c.holder = p → c.shadow.sound = true → passes →
      ∃ t, exec (.commit p) s = .next t ∧
        (∀ q, t.port q = { (installed.answered p tag .ok []).port q with outcome := none, offerDue := true }) ∧
        { t with ports := s.ports } = installed) ∧
    (s.claim = some c → c.holder = p → c.shadow.sound = true → ¬passes →
      exec (.commit p) s = .next
        (({ s with claim := some { c with deadline := s.clock + 1000 * s.leaseMs } }).answered p tag .invalid [])) ∧
    ((∀ x, s.claim = some x → x.holder ≠ p) → exec (.commit p) s = .next (s.answered p tag .busy []))

/-- ABORT by the holder ends the claim with its shadow and lease and nothing else, and is BUSY for any other port or while
there is no holder; a lease whose deadline is reached releases the claim with a CLAIM EXPIRED record, NORMAL or CONTAINED
(R23, R29, R30). -/
def Obligations.AbortAndLeaseExpiryEndTheClaim : Prop :=
  ∀ (s : State) (p : RP) (tag : Tag) (data : List Byte),
    (s.servesCommand p tag 0x03 data → s.hub = .normal →
      (∀ c, s.claim = some c → c.holder = p →
        exec (.abort p) s = .next (({ s with claim := none }).answered p tag .ok [])) ∧
      ((∀ c, s.claim = some c → c.holder ≠ p) → exec (.abort p) s = .next (s.answered p tag .busy []))) ∧
    (∀ c, s.claim = some c → c.deadline ≤ s.clock →
      exec .leaseExpiry s = .next
        (({ s with claim := none }).report .hub
          { kind := .claimExpired, severity := .corrected, port := some c.holder }))

/-- A shadow write of a holder whose shadow is sound stores every field of its record and restarts the lease, or stores
nothing where a field is out of range (R21, R23, R24, R167, section 10.3; the free value counter: log entry 6; a target
code of 7 and of FFh: 24; which bit of a rights byte is which port: 37). -/
def Obligations.ShadowWriteStoresWholeRecords : Prop :=
  ∀ (s : State) (p : RP) (tag : Tag) (data : List Byte) (w : Fin 16) (c : Claim),
    s.hub = .normal → s.claim = some c → c.holder = p → c.shadow.sound = true →
    let x := look c.shadow.windows w
    let byte (k : Nat) : Nat := (byteAt data k).toNat
    let stored (t : Table) (u : State) : Prop :=
      u = ({ s with
        claim := some { holder := p, deadline := s.clock + 1000 * s.leaseMs, shadow := t },
        freeCount := s.freeCount + 1 }).answered p tag .ok []
    let target (k : Nat) (t : Option TP) : Prop := (byte k = 7 ∧ t = none) ∨ ∃ y : TP, y.val = byte k ∧ t = some y
    let range := BitVec.ofNat 16 (0x0300 + 2 * w.val)
    let routing := BitVec.ofNat 16 (0x0301 + 2 * w.val)
    (s.servesWrite p tag range data →
      (1 < byte 0 → exec (.shadowWrite p) s = .next (s.answered p tag .invalid [])) ∧
      (byte 0 ≤ 1 → ∃ u base limit, exec (.shadowWrite p) s = .next u ∧
        base.toNat = byte 1 * 2 ^ 20 + byte 2 * 2 ^ 12 + byte 3 * 2 ^ 4 + byte 4 / 16 ∧
        limit.toNat = byte 4 % 16 * 2 ^ 24 + byte 5 * 2 ^ 16 + byte 6 * 2 ^ 8 + byte 7 ∧
        stored { c.shadow with
          windows := upd c.shadow.windows w { x with valid := decide (byte 0 = 1), base := base, limit := limit } } u)) ∧
    (s.servesWrite p tag routing data →
      ((byte 0 = 6 ∨ 7 < byte 0 ∨ byte 1 = 6 ∨ 7 < byte 1 ∨ 15 < byte 2 ∨ 15 < byte 3 ∨ 1 < byte 4 ∨ 3 < byte 5) →
        exec (.shadowWrite p) s = .next (s.answered p tag .invalid [])) ∧
      (∀ (r v : Option TP) (k : Fin 4), target 0 r → target 1 v → byte 2 ≤ 15 → byte 3 ≤ 15 → byte 4 ≤ 1 → k.val = byte 5 →
        ∃ u, exec (.shadowWrite p) s = .next u ∧
          stored { c.shadow with
            windows := upd c.shadow.windows w { x with
              readTarget := r, writeTarget := v, readRights := BitVec.ofNat 4 (byte 2),
              writeRights := BitVec.ofNat 4 (byte 3), atomic := decide (byte 4 = 1), cls := k } } u)) ∧
    (s.servesWrite p tag 0x0320 data →
      let ceiling := byte 0 * 2 ^ 24 + byte 1 * 2 ^ 16 + byte 2 * 2 ^ 8 + byte 3
      ((2 ^ 28 < ceiling ∨ byte 4 = 6 ∨ 7 < byte 4) →
        exec (.shadowWrite p) s = .next (s.answered p tag .invalid [])) ∧
      (∀ r : Option TP, target 4 r → ceiling ≤ 2 ^ 28 → ∃ u, exec (.shadowWrite p) s = .next u ∧
        stored { c.shadow with route := { ceiling := ceiling, target := r, parity := true } } u))

/-- A window range, a window routing record and the default route read back from the active table by any port and from the
shadow by its holder, as the layout has them, with the bytes it does not list left open; to any other port the shadow is
BUSY, to write and to read (R7, R21, R24, R25, R169, section 10.3; the open bytes: log entry 5; NONE as 7: 24; the zero
bits: 25; which bit of a rights byte is which port: 37; the parity check of the addressed item of the shadow alone: 41). -/
def Obligations.WindowsReadBackAndTheShadowIsTheHolders : Prop :=
  ∀ (s : State) (p : RP) (tag : Tag) (w : Fin 16) (t : Table),
    let x := look t.windows w
    let target (y : Option TP) (b : Byte) : Prop := b.toNat = (y.map Fin.val).getD 7
    let range (b : List Byte) : Prop :=
      (byteAt b 0).toNat = (if x.valid then 1 else 0) ∧
        x.base.toNat = (byteAt b 1).toNat * 2 ^ 20 + (byteAt b 2).toNat * 2 ^ 12 + (byteAt b 3).toNat * 2 ^ 4 +
          (byteAt b 4).toNat / 16 ∧
        x.limit.toNat = (byteAt b 4).toNat % 16 * 2 ^ 24 + (byteAt b 5).toNat * 2 ^ 16 + (byteAt b 6).toNat * 2 ^ 8 +
          (byteAt b 7).toNat
    let routing (b : List Byte) : Prop :=
      target x.readTarget (byteAt b 0) ∧ target x.writeTarget (byteAt b 1) ∧
        (byteAt b 2).toNat = x.readRights.toNat ∧ (byteAt b 3).toNat = x.writeRights.toNat ∧
        (byteAt b 4).toNat = (if x.atomic then 1 else 0) ∧ (byteAt b 5).toNat = x.cls.val
    let route (b : List Byte) : Prop := be32 b 0 = BitVec.ofNat 32 t.route.ceiling ∧ target t.route.target (byteAt b 4)
    let reads (row : Instr) (number : Nat) (holds : List Byte → Prop) : Prop :=
      s.servesRead p tag (BitVec.ofNat 16 number) →
        ∃ b, b.length = 8 ∧ exec row s = .next (s.readAnswered p tag .ok b) ∧ holds b
    (s.active = t →
      (x.parity = true →
        reads (.activeTableRead p) (0x0200 + 2 * w.val) range ∧
        reads (.activeTableRead p) (0x0201 + 2 * w.val) routing) ∧
      (t.route.parity = true → reads (.activeTableRead p) 0x0220 route)) ∧
    (∀ c, s.claim = some c → c.holder = p → c.shadow = t →
      (x.parity = true →
        reads (.shadowRead p) (0x0300 + 2 * w.val) range ∧
        reads (.shadowRead p) (0x0301 + 2 * w.val) routing) ∧
      (t.route.parity = true → reads (.shadowRead p) 0x0320 route)) ∧
    (∀ number : BitVec 16, (∀ c, s.claim = some c → c.holder ≠ p) →
      ((0x0300 ≤ number.toNat ∧ number.toNat < 0x0320) ∨ number.toNat = 0x0320) →
      (∀ data, s.hub = .normal → s.servesWrite p tag number data →
        exec (.shadowWrite p) s = .next (s.answered p tag .busy [])) ∧
      (s.servesRead p tag number → exec (.shadowRead p) s = .next (s.readAnswered p tag .busy (ones 8))))

/-- A rights write replaces the three flags of the port addressed while the lock is clear; it is DENIED while the lock is set
or from a port without CONFIGURE. LOCK RIGHTS sets the lock whether it was clear or set (R33, R34, R167). -/
def Obligations.RightsAreWrittenUntilTheyAreLocked : Prop :=
  ∀ (s : State) (p q : RP) (tag : Tag) (data : List Byte),
    s.hub = .normal →
    let number := BitVec.ofNat 16 (0x0018 + q.val)
    let b := byteAt data 0
    (s.servesWrite p tag number data → ((s.rightsOf p).configure = false ∨ s.rightsLock = true) →
      exec (.rightsWrite p) s = .next (s.answered p tag .denied [])) ∧
    (s.servesCommand p tag 0x04 data → (s.rightsOf p).configure = false →
      exec (.lockRights p) s = .next (s.answered p tag .denied [])) ∧
    ((s.rightsOf p).configure = true →
    (s.servesWrite p tag number data → s.rightsLock = false → 7 < b.toNat →
      exec (.rightsWrite p) s = .next (s.answered p tag .invalid [])) ∧
    (∀ configure handle test : Bool,
      b.toNat = (if configure then 1 else 0) + (if handle then 2 else 0) + (if test then 4 else 0) →
      s.servesWrite p tag number data → s.rightsLock = false →
      exec (.rightsWrite p) s = .next
        (({ s with rights := upd s.rights q { configure, handle, test } }).answered p tag .ok [])) ∧
    (s.servesCommand p tag 0x04 data →
      exec (.lockRights p) s = .next (({ s with rightsLock := true }).answered p tag .ok [])))

/-! ## Settings -/

/-- The interval, cap and limit writes: stored and answered OK within their range, INVALID and nothing stored outside it;
no deadline already set moves (R23, R38, R61, R62, R63). -/
def Obligations.IntervalCapAndLimitWrites : Prop :=
  ∀ (s : State) (p q : RP) (t : TP) (k : Fin 4) (tag : Tag) (data : List Byte),
    s.hub = .normal → (s.rightsOf p).configure = true →
    let byte (i : Nat) : Nat := (byteAt data i).toNat
    let word := byte 0 * 256 + byte 1
    let writes (number : Nat) (row : Instr) (lo hi n : Nat) (stored : State) : Prop :=
      s.servesWrite p tag (BitVec.ofNat 16 number) data →
        ((n < lo ∨ hi < n) → exec row s = .next (s.answered p tag .invalid [])) ∧
        (lo ≤ n → n ≤ hi → exec row s = .next (stored.answered p tag .ok []))
    writes 0x0025 (.leaseIntervalWrite p) 1 1000 word { s with leaseMs := word } ∧
    writes (0x0020 + k.val) (.classIntervalWrite p) 1 4095 word
      { s with classIntervals := upd s.classIntervals k word } ∧
    writes 0x0024 (.reclaimIntervalWrite p) 1 255 (byte 0) { s with reclaimMs := byte 0 } ∧
    writes (0x0010 + q.val) (.capWrite p) 1 32 (byte 1)
      (s.setPort q { s.port q with cap := byte 1, offerDue := true }) ∧
    writes (0x0030 + t.val) (.fenceLimitWrite p) 1 15 (byte 5)
      (s.setTarget t { s.target t with fenceLimit := byte 5 })

/-- The mask, floor and route writes of a bank: stored whole, or INVALID where a mask bit names no kind of the bank's class,
a floor code is none of the four or a route bit none of the ports; records, flag, counter and pending reasons stay
(R86, R99, R115, R167). -/
def Obligations.MaskFloorAndRouteWrites : Prop :=
  ∀ (s : State) (p : RP) (b : Bank) (tag : Tag) (data : List Byte),
    s.hub = .normal → (s.rightsOf p).configure = true →
    let number (k : Nat) := BitVec.ofNat 16 (0x0100 + 8 * b.idx.val + k)
    let byte (i : Nat) : Nat := (byteAt data i).toNat
    let mask := be32 data 0
    let lies (k : Nat) : Prop :=
      match b with
      | .req _ => 1 ≤ k ∧ k ≤ 8
      | .tgt _ => 8 ≤ k ∧ k ≤ 19
      | .hub => 20 ≤ k ∧ k ≤ 22
    (s.servesWrite p tag (number 4) data →
      ((∀ k, mask.getLsbD k = true → lies k) →
        exec (.maskWrite p) s = .next ((s.setBank b { s.bank b with mask := mask }).answered p tag .ok [])) ∧
      ((∃ k, mask.getLsbD k = true ∧ ¬lies k) →
        exec (.maskWrite p) s = .next (s.answered p tag .invalid []))) ∧
    (s.servesWrite p tag (number 5) data →
      ((3 < byte 0 ∨ 15 < byte 1) → exec (.alertFloorRouteWrite p) s = .next (s.answered p tag .invalid [])) ∧
      (byte 1 ≤ 15 → ∀ floor : Option Severity,
        byte 0 = (match floor with
          | some .corrected => 0
          | some .uncorrected => 1
          | some .fatal => 2
          | none => 3) →
        exec (.alertFloorRouteWrite p) s = .next
          ((s.setBank b { s.bank b with floor := floor, route := BitVec.ofNat 4 (byte 1) }).answered p tag .ok [])))

/-- A counter settings write, after its three checks: the count is compared with the new threshold and trips or clears the
counter, a TRIP reason is raised only where it was clear, and the leak deadline restarts (R104; enable read from bit 0
whatever the other bits of its byte hold: log entry 25). -/
def Obligations.CounterSettingsWriteComparesAndRestarts : Prop :=
  ∀ (s : State) (p : RP) (b : Bank) (tag : Tag) (data : List Byte),
    s.servesWrite p tag (BitVec.ofNat 16 (0x0106 + 8 * b.idx.val)) data →
    let threshold := (byteAt data 3).toNat * 256 + (byteAt data 4).toNat
    let leakMs := (byteAt data 5).toNat
    let c := (s.bank b).counter
    let stored (count : Nat) (tripped : Bool) : State :=
      s.setBank b { s.bank b with
        counter :=
          { enable := (byteAt data 0).getLsbD 0, count := count, threshold := threshold, leakMs := leakMs,
            leakDeadline := if leakMs = 0 then none else some (s.clock + 1000 * leakMs), tripped := tripped } }
    (s.hub = .contained → exec (.counterSettingsWrite p) s = .next (s.answered p tag .hubFault [])) ∧
    (s.hub = .normal → (s.rightsOf p).configure = false →
      exec (.counterSettingsWrite p) s = .next (s.answered p tag .denied [])) ∧
    (s.hub = .normal → (s.rightsOf p).configure = true → (threshold = 0 ∨ 4095 < threshold) →
      exec (.counterSettingsWrite p) s = .next (s.answered p tag .invalid [])) ∧
    (s.hub = .normal → (s.rightsOf p).configure = true → 1 ≤ threshold → threshold ≤ 4095 →
      (c.count < threshold →
        exec (.counterSettingsWrite p) s = .next ((stored c.count false).answered p tag .ok [])) ∧
      (threshold ≤ c.count → c.tripped = true →
        exec (.counterSettingsWrite p) s = .next ((stored threshold true).answered p tag .ok [])) ∧
      (threshold ≤ c.count → c.tripped = false →
        exec (.counterSettingsWrite p) s = .next (((stored threshold true).raise b .trip).answered p tag .ok [])))

/-! ## Banks -/

/-- The creation of a record: nothing at all for a masked kind; else the next sequence and the stamp, the counter and the
reasons, and the full-bank rule, with every other bank and all else as it was (R80, R81, R82, R85, R102, R108, R109). -/
def Obligations.RecordCreation : Prop :=
  ∀ (s : State) (b : Bank) (r : Report),
    let f := s.report b r
    let k := s.bank b
    let c := k.counter
    let counted : Bool := decide (r.severity = .corrected) && c.enable && !c.tripped
    let trips : Bool := counted && decide (c.count + 1 = c.threshold)
    let atOrAbove : Prop := ∃ x, k.floor = some x ∧ x.code ≤ r.severity.code
    (k.mask.getLsbD r.kind.code = true → f = s) ∧
    (k.mask.getLsbD r.kind.code = false →
      f.sequence = s.sequence + 1 ∧
      f.bank b = { fullBank k
          { sequence := s.sequence, kind := r.kind, severity := r.severity, injected := r.injected,
            stamp := BitVec.ofNat 32 s.clock, port := r.port, tag := r.tag, target := r.target, entry := r.entry,
            address := r.address, version := r.version, detail := r.detail } with
        counter := { c with count := if counted then c.count + 1 else c.count, tripped := c.tripped || trips } } ∧
      (∀ x, x ≠ b → f.bank x = s.bank x) ∧
      (∀ p, let old := look (s.port p).alerts b.idx
        look (f.port p).alerts b.idx =
          if k.route.getLsbD p.val = true ∧ (s.link (.rp p)).state = .up then
            { old with
              record := old.record || decide atOrAbove
              trip := old.trip || trips }
          else old) ∧
      (∀ p x, x ≠ b.idx → look (f.port p).alerts x = look (s.port p).alerts x) ∧
      (∀ p, f.port p = { s.port p with alerts := (f.port p).alerts }) ∧
      f = { s with sequence := f.sequence, banks := f.banks, ports := f.ports })

/-- The full-bank rule, by what the bank holds and by the new record's severity; no bank comes to hold more than 4 (R87,
R88). -/
def Obligations.FullBankRule : Prop :=
  ∀ (k : BankState) (r : Rec),
    (k.records.length < 4 → fullBank k r = { k with records := k.records ++ [r] }) ∧
    (∀ older x newer, k.records = older ++ [x] ++ newer → x.severity ≠ .fatal → (∀ y ∈ newer, y.severity = .fatal) →
      k.records.length = 4 → r.severity = .fatal →
      fullBank k r = { k with records := older ++ newer ++ [r], overflow := true }) ∧
    (k.records.length = 4 → (∀ y ∈ k.records, y.severity = .fatal) → fullBank k r = { k with overflow := true }) ∧
    (k.records.length = 4 → r.severity ≠ .fatal → fullBank k r = { k with overflow := true }) ∧
    (k.records.length ≤ 4 → (fullBank k r).records.length ≤ 4)

/-- A raised reason joins the bank's set in the pending map of each routed port whose link is UP, once, and nothing else
changes; every route is empty after a cold reset (R110). -/
def Obligations.ReasonsReachRoutedPortsThatAreUp : Prop :=
  ∀ (s : State) (b : Bank) (x : Reason),
    let f := s.raise b x
    let has (r : Reasons) (y : Reason) : Bool :=
      match y with
      | .record => r.record
      | .trip => r.trip
      | .fence => r.fence
      | .reopen => r.reopen
      | .contain => r.contain
    let reached (p : RP) : Prop := (s.bank b).route.getLsbD p.val = true ∧ (s.link (.rp p)).state = .up
    (∀ p, reached p → ∀ y, has (look (f.port p).alerts b.idx) y = (has (look (s.port p).alerts b.idx) y || decide (y = x))) ∧
    (∀ p, ¬reached p → f.port p = s.port p) ∧
    (∀ p c, c ≠ b.idx → look (f.port p).alerts c = look (s.port p).alerts c) ∧
    (∀ p, f.port p = { s.port p with alerts := (f.port p).alerts }) ∧
    f = { s with ports := f.ports } ∧
    (∀ t, exec .coldReset s = .next t → (t.bank b).route = 0)

/-- POP, NORMAL or CONTAINED, is DENIED without HANDLE and INVALID where its bank operand names none; it removes the oldest
record where the number carried is its sequence and is STALE otherwise, and nothing else of the bank changes (R93, R94). -/
def Obligations.PopRemovesTheOldestByItsSequence : Prop :=
  ∀ (s : State) (p : RP) (b : Bank) (tag : Tag) (data : List Byte),
    s.servesCommand p tag 0x10 data →
    ((s.rightsOf p).handle = false → exec (.pop p) s = .next (s.answered p tag .denied [])) ∧
    ((s.rightsOf p).handle = true →
      (10 < (byteAt data 1).toNat → exec (.pop p) s = .next (s.answered p tag .invalid [])) ∧
      ((byteAt data 1).toNat = b.idx.val →
        (∀ r rest, (s.bank b).records = r :: rest →
          (r.sequence = be16 data 2 →
            exec (.pop p) s = .next ((s.setBank b { s.bank b with records := rest }).answered p tag .ok [])) ∧
          (r.sequence ≠ be16 data 2 → exec (.pop p) s = .next (s.answered p tag .stale []))) ∧
        ((s.bank b).records = [] → exec (.pop p) s = .next (s.answered p tag .stale []))))

/-- CLEAR OVERFLOW and RESET COUNTER: the flag cleared, or the count 0 and tripped clear, whatever they were, and OK;
HUB FAULT while CONTAINED, DENIED without HANDLE, INVALID where the bank operand names none. A leak expiry lowers the count
of a counter that is not tripped by 1, to 0 at the least, and sets the next deadline (R96, R103, R105). -/
def Obligations.OverflowAndCountersAreClearedAndLeak : Prop :=
  ∀ (s : State) (p : RP) (tag : Tag) (data : List Byte),
    (∀ status, ((s.hub = .contained ∧ status = .hubFault) ∨
        (s.hub = .normal ∧ (s.rightsOf p).handle = false ∧ status = .denied)) →
      (s.servesCommand p tag 0x11 data → exec (.clearOverflow p) s = .next (s.answered p tag status [])) ∧
      (s.servesCommand p tag 0x13 data → exec (.resetCounter p) s = .next (s.answered p tag status []))) ∧
    (s.hub = .normal → (s.rightsOf p).handle = true →
    (∀ b : Bank, (byteAt data 1).toNat = b.idx.val →
      (s.servesCommand p tag 0x11 data →
        exec (.clearOverflow p) s = .next ((s.setBank b { s.bank b with overflow := false }).answered p tag .ok [])) ∧
      (s.servesCommand p tag 0x13 data →
        exec (.resetCounter p) s = .next
          ((s.setBank b { s.bank b with
            counter := { (s.bank b).counter with count := 0, tripped := false } }).answered p tag .ok []))) ∧
    (10 < (byteAt data 1).toNat →
      (s.servesCommand p tag 0x11 data → exec (.clearOverflow p) s = .next (s.answered p tag .invalid [])) ∧
      (s.servesCommand p tag 0x13 data → exec (.resetCounter p) s = .next (s.answered p tag .invalid [])))) ∧
    (∀ (b : Bank) (d : Nat),
      let c := (s.bank b).counter
      c.leakMs ≠ 0 → c.leakDeadline = some d → d ≤ s.clock →
      exec (.leakExpiry b) s = .next
        (s.setBank b { s.bank b with
          counter := { c with
            count := if c.tripped = false ∧ 0 < c.count then c.count - 1 else c.count
            leakDeadline := some (s.clock + 1000 * c.leakMs) } }))

/-- INJECT reports the record its operands describe, injected yes, and does nothing else; INVALID for a kind outside the
bank's class or a field present out of range (R97, R98; FFh as the absence of an operand, a target of 7: log entry 24; an
entry byte whose bit 7 is set: 40). -/
def Obligations.InjectReportsAndDoesNothingElse : Prop :=
  ∀ (s : State) (p : RP) (tag : Tag) (data : List Byte),
    s.servesCommand p tag 0x12 data → s.hub = .normal → (s.rightsOf p).test = true →
    let byte (k : Nat) : Nat := (byteAt data k).toNat
    let holds (b : Bank) (kind : Kind) : Prop :=
      match b with
      | .req _ => 1 ≤ kind.code ∧ kind.code ≤ 8
      | .tgt _ => 8 ≤ kind.code ∧ kind.code ≤ 19
      | .hub => 20 ≤ kind.code ∧ kind.code ≤ 22
    (∀ (b : Bank) (kind : Kind) (severity : Severity) (port : Option RP) (g : Option Tag) (target : Option TP)
      (entry : Option (Fin 32 × Fin 4)),
      byte 1 = b.idx.val → byte 2 = kind.code → holds b kind → byte 3 = severity.code →
      byte 4 = (port.map Fin.val).getD 255 → byte 5 = (g.map Fin.val).getD 255 →
      byte 6 = (target.map Fin.val).getD 255 → byte 7 = (entry.map fun e => e.1.val + 32 * e.2.val).getD 255 →
      exec (.inject p) s = .next
        ((s.report b { kind, severity, injected := true, port, tag := g, target, entry }).answered p tag .ok [])) ∧
    ((10 < byte 1 ∨ byte 2 = 0 ∨ 22 < byte 2 ∨ 2 < byte 3 ∨ (3 < byte 4 ∧ byte 4 < 255) ∨
        (63 < byte 5 ∧ byte 5 < 255) ∨ (5 < byte 6 ∧ byte 6 < 255) ∨ (127 < byte 7 ∧ byte 7 < 255) ∨
        (∃ (b : Bank) (kind : Kind), byte 1 = b.idx.val ∧ byte 2 = kind.code ∧ ¬holds b kind)) →
      exec (.inject p) s = .next (s.answered p tag .invalid []))

/-- The parts of a bank's head: the first replaces the reader's snapshot by a copy of the oldest record and shows its
flags, kind, sequence and stamp; a further part comes from the reader's own snapshot, the second with port, tag, target,
entry, what is present and the detail, the third with version and address, and is STALE where the snapshot is of another
bank or none (R91, section 10.3; the open bytes: log entry 5; the row that serves a further part: 8; an absent entry: 24;
the zero bits: 25). -/
def Obligations.HeadPartsShareTheReadersSnapshot : Prop :=
  ∀ (s : State) (p : RP) (b : Bank) (tag : Tag),
    let number (part : Nat) := BitVec.ofNat 16 (0x0100 + 8 * b.idx.val + part)
    let byte (bytes : List Byte) (k : Nat) : Nat := (byteAt bytes k).toNat
    let severityCode (x : Severity) : Nat :=
      match x with
      | .corrected => 0
      | .uncorrected => 1
      | .fatal => 2
    let kindCode (k : Kind) : Nat :=
      match k with
      | .creditOverrun => 1
      | .malformed => 2
      | .duplicateTag => 3
      | .noRoute => 4
      | .denied => 5
      | .atomicRefused => 6
      | .requesterLinkLoss => 7
      | .linkRetry => 8
      | .slowResponse => 9
      | .timedOut => 10
      | .lateResponse => 11
      | .staleResponse => 12
      | .targetCorrected => 13
      | .targetError => 14
      | .targetPoison => 15
      | .protocol => 16
      | .abandonLimit => 17
      | .targetLinkLoss => 18
      | .manualFence => 19
      | .storageCheck => 20
      | .claimExpired => 21
      | .claimDropped => 22
    (∀ x : Severity, x.code = severityCode x) ∧ (∀ k : Kind, k.code = kindCode k) ∧
    (s.servesRead p tag (number 0) →
      let copy := (s.bank b).records.head?
      ∃ bytes, exec (.headFirstPartRead p) s = .next
          ((s.setPort p { s.port p with snapshot := some { bank := b, copy := copy } }).readAnswered p tag .ok bytes) ∧
        bytes.length = 8 ∧
        (copy = none → (byteAt bytes 0).getLsbD 0 = false) ∧
        (∀ r, copy = some r →
          byte bytes 0 = 1 + 2 * severityCode r.severity + (if r.injected then 8 else 0) ∧
            byte bytes 1 = kindCode r.kind ∧ be16 bytes 2 = r.sequence ∧ be32 bytes 4 = r.stamp)) ∧
    (∀ part, (part = 1 ∨ part = 2) → s.servesRead p tag (number part) →
      ((∀ x, (s.port p).snapshot = some x → x.bank ≠ b) →
        exec (.configWrite p) s = .next (s.readAnswered p tag .stale (ones 8))) ∧
      (∀ copy, (s.port p).snapshot = some { bank := b, copy := copy } →
        ∃ bytes, exec (.configWrite p) s = .next (s.readAnswered p tag .ok bytes) ∧ bytes.length = 8 ∧
          (part = 1 → byte bytes 7 = (if copy.isSome then 1 else 0)) ∧
          (part = 2 → byte bytes 2 = (if copy.isSome then 1 else 0)) ∧
          (copy = none → part = 1 → bytes.take 5 = [0xFF, 0xFF, 0xFF, 0xFF, 0]) ∧
          (∀ r, copy = some r → part = 1 →
            byte bytes 0 = (r.port.map Fin.val).getD 255 ∧ byte bytes 1 = (r.tag.map Fin.val).getD 255 ∧
            byte bytes 2 = (r.target.map Fin.val).getD 255 ∧
            byte bytes 3 = (r.entry.map fun e => e.1.val + 32 * e.2.val).getD 255 ∧
            byte bytes 4 =
              (if r.address.isSome then 1 else 0) + (if r.version.isSome then 2 else 0) +
                (if r.detail.isSome then 4 else 0) ∧
            ∀ d, r.detail = some d → byteAt bytes 5 = byteOf d.1 ∧ byteAt bytes 6 = byteOf d.2) ∧
          (∀ r, copy = some r → part = 2 →
            (∀ v, r.version = some v → be16 bytes 0 = v) ∧ ∀ a, r.address = some a → be40 bytes 3 = a)))

/-! ## FENCE and REOPEN -/

/-- FENCE after its checks: it fences an OPEN target with a MANUAL FENCE record and its detail, changes nothing of a FENCED
one, and takes a DOWN one to FENCED with a record of nothing cut off and no FENCE reason (R125). -/
def Obligations.FenceCommandByTargetState : Prop :=
  ∀ (s : State) (p : RP) (t : TP) (tag : Tag) (data : List Byte),
    s.servesCommand p tag 0x20 data →
    let u := s.target t
    let manual (detail : Nat × Nat) : Report :=
      { kind := .manualFence, severity := .fatal, port := some p, tag := some tag, target := some t,
        detail := some detail }
    (s.hub = .contained → exec (.fence p) s = .next (s.answered p tag .hubFault [])) ∧
    (s.hub = .normal → (s.rightsOf p).handle = false → exec (.fence p) s = .next (s.answered p tag .denied [])) ∧
    (s.hub = .normal → (s.rightsOf p).handle = true →
      (5 < (byteAt data 1).toNat → exec (.fence p) s = .next (s.answered p tag .invalid [])) ∧
      ((byteAt data 1).toNat = t.val →
        (u.state = .opened →
          exec (.fence p) s = .next
            (((s.report (.tgt t) (manual (s.fenceDetail t))).fence t).answered p tag .ok [])) ∧
        (u.state = .fenced → exec (.fence p) s = .next (s.answered p tag .ok [])) ∧
        (u.state = .down →
          let k := s.link (.tp t)
          exec (.fence p) s = .next
            (((((s.setTarget t { u with state := .fenced }).report (.tgt t) (manual (0, 0))).setLink (.tp t)
              { k with resetPending := k.resetPending || decide (k.state ≠ .down) }).offerAll).answered p tag .ok []))))

/-- REOPEN after its checks, by the target's state, its link and its bank (R126), and what an accepted one does (R127). -/
def Obligations.ReopenByStateLinkAndBank : Prop :=
  ∀ (s : State) (p : RP) (t : TP) (tag : Tag) (data : List Byte),
    s.servesCommand p tag 0x21 data →
    let u := s.target t
    let up := (s.link (.tp t)).state = .up
    let held : Prop := ∃ r ∈ (s.bank (.tgt t)).records, r.severity = .fatal ∧ r.injected = false
    (s.hub = .contained → exec (.reopen p) s = .next (s.answered p tag .hubFault [])) ∧
    (s.hub = .normal → (s.rightsOf p).handle = false → exec (.reopen p) s = .next (s.answered p tag .denied [])) ∧
    (s.hub = .normal → (s.rightsOf p).handle = true →
      (5 < (byteAt data 1).toNat → exec (.reopen p) s = .next (s.answered p tag .invalid [])) ∧
      ((byteAt data 1).toNat = t.val →
        (u.state = .opened → exec (.reopen p) s = .next (s.answered p tag .ok [])) ∧
        (u.state = .down → exec (.reopen p) s = .next (s.answered p tag .busy [])) ∧
        (u.state = .fenced → ¬up → exec (.reopen p) s = .next (s.answered p tag .busy [])) ∧
        (u.state = .fenced → up → held → exec (.reopen p) s = .next (s.answered p tag .invalid [])) ∧
        (u.state = .fenced → up → ¬held →
          exec (.reopen p) s = .next
            (((s.setTarget t { u with state := .opened, credits := u.advertisement }).raise (.tgt t)
              .reopen).offerAll.answered p tag .ok []))))

/-! ## The outbound side of a requester port -/

/-- The outbound arbiter, while its link can take a packet: all credits due in one CREDIT first, and no answer and no alert
while credits are due; then, of an answer and an alert that both wait, the kind not sent last and not the other; else
whichever waits: the answer at the head of the queue with its tag, status and data, or the ALERT of the lowest bank with its
reasons, the newest sequence it holds and the stamp. A send that is not the arbiter's choice, or on a link that can take no
packet, leaves the state (R112, R138, R146, R147, R157, section 9.6; a send that is not due: log entry 2; bits 6 and 5 of the
reasons byte: 38). -/
def Obligations.OutboundArbiterSendsCreditsAnswersAndAlerts : Prop :=
  ∀ (s : State) (p : RP),
    let k := s.link (.rp p)
    let u := s.port p
    let canTake : Prop := k.state = .up ∧ k.confirmed = true ∧ k.resetPending = false ∧ k.replay.length < 64
    let pendingAlert (i : Fin 11) : Prop :=
      let r := look u.alerts i
      r.record = true ∨ r.trip = true ∨ r.fence = true ∨ r.reopen = true ∨ r.contain = true
    let statusCode (x : Status) : Byte :=
      match x with
      | .ok => 0
      | .targetError => 1
      | .noRoute => 2
      | .denied => 3
      | .refused => 4
      | .timedOut => 5
      | .fenced => 6
      | .hubFault => 7
      | .busy => 8
      | .stale => 9
      | .invalid => 10
    (canTake → 0 < u.due →
      exec (.creditSend p) s = .next
        ((s.setPort p { u with reckoning := u.reckoning + u.due, due := 0 }).sendPacket (.rp p) .credit [byteOf u.due])) ∧
    (∀ a rest, canTake → u.due = 0 → u.responses = a :: rest → (u.lastKind = .alert ∨ ∀ i, ¬pendingAlert i) →
      exec (.responseSend p) s = .next
        ((s.setPort p { u with responses := rest, lastKind := .response, offerDue := true }).sendPacket (.rp p) .response
          ([byteOf a.tag.val, statusCode a.status] ++ a.data))) ∧
    (∀ b : Bank, canTake → u.due = 0 → pendingAlert b.idx → (∀ i, i < b.idx → ¬pendingAlert i) →
      (u.lastKind = .response ∨ u.responses = []) →
      let r := look u.alerts b.idx
      let newest := (s.bank b).records.getLast?
      let reasons := (if r.record then 1 else 0) + (if r.trip then 2 else 0) + (if r.fence then 4 else 0) +
        (if r.reopen then 8 else 0) + (if r.contain then 16 else 0) + (if newest.isSome then 128 else 0)
      exec (.alertSend p) s = .next
        ((s.setPort p { u with alerts := upd u.alerts b.idx Reasons.empty, lastKind := .alert }).sendPacket (.rp p) .alert
          ([byteOf b.idx.val, byteOf reasons] ++ (match newest with
            | some x => bytes16 x.sequence
            | none => [0xFF, 0xFF]) ++ bytes32 (BitVec.ofNat 32 s.clock)))) ∧
    ((¬canTake ∨ u.due = 0) → exec (.creditSend p) s = .next s) ∧
    ((¬canTake ∨ 0 < u.due ∨ u.responses = [] ∨ (u.lastKind = .response ∧ ∃ i, pendingAlert i)) →
      exec (.responseSend p) s = .next s) ∧
    ((¬canTake ∨ 0 < u.due ∨ (∀ i, ¬pendingAlert i) ∨ (u.lastKind = .alert ∧ u.responses ≠ [])) →
      exec (.alertSend p) s = .next s)

/-! ## The hub link -/

/-- Training: a TRAIN taken is acknowledged and takes a DOWN link to TRAINING, an ACK carrying 255 acknowledges the hub's own;
the first event that leaves both brings the link UP, with its numbers, its buffer and its silence deadline set and the port
unit told: a requester port resumes with reckoning 8 and with empty queues and an empty pending map; a target's advertisement
outside 1 to 16 is discarded. While the link is not UP a LINK RESET takes TRAINING back to DOWN, and every other frame, good or
with a CRC failure, is discarded (R119, R137, R150, R154, R156; the queues of a port that a LINK RESET of the hub left filled:
log entry 20; an OPEN target, which some runs reach, keeps its state and credits at link UP: 19; a bad advertisement while UP:
18; a handed frame: 14). -/
def Obligations.TrainingBringsTheLinkUp : Prop :=
  ∀ (s : State) (l : LinkId) (advertisement : Byte),
    let k := s.link l
    let fits : Prop := ∀ t, l = .tp t → 1 ≤ advertisement.toNat ∧ advertisement.toNat ≤ 16
    let stored (v : State) : State :=
      match l with
      | .rp _ => v
      | .tp t => v.setTarget t { v.target t with advertisement := advertisement.toNat }
    let up (v : State) : State :=
      let w := v.setLink l { v.link l with
        state := .up, nextNumber := 0, expected := 0, replay := [], replayCount := 0, nak := none, confirmed := false,
        silence := some (s.clock + 64), ackDue := false }
      match l with
      | .rp p => w.setPort p { w.port p with
          ingress := [], responses := [], alerts := Vector.replicate 11 Reasons.empty, outcome := none, offerDue := false,
          reckoning := 8, due := 0, lastKind := .alert }
      | .tp t =>
        if (w.target t).state = .down ∧ w.hub = .normal then
          (w.setTarget t { w.target t with state := .opened, credits := (w.target t).advertisement }).offerAll
        else w
    let trained := stored (s.setLink l { k with handed := k.handed ++ [.ack255], state := .training })
    (k.state ≠ .up → fits → k.ownAcked = false → exec (.trainReceived l advertisement) s = .next trained) ∧
    (k.state ≠ .up → fits → k.ownAcked = true → exec (.trainReceived l advertisement) s = .next (up trained)) ∧
    (k.state ≠ .up → ¬fits → exec (.trainReceived l advertisement) s = .next s) ∧
    (k.state = .up → fits → k.confirmed = false →
      exec (.trainReceived l advertisement) s = .next
        (stored (s.setLink l { k with handed := k.handed ++ [.ack255], silence := some (s.clock + 64) }))) ∧
    (k.state = .up → ¬fits → k.confirmed = false →
      exec (.trainReceived l advertisement) s = .next (s.setLink l { k with silence := some (s.clock + 64) })) ∧
    (k.state = .down → exec (.ack255Received l) s = .next (s.setLink l { k with ownAcked := true })) ∧
    (k.state = .training → exec (.ack255Received l) s = .next (up (s.setLink l { k with ownAcked := true }))) ∧
    (k.state = .down → exec (.linkResetReceived l) s = .next s) ∧
    (k.state = .training →
      exec (.linkResetReceived l) s = .next (s.setLink l { k with state := .down, ownAcked := false })) ∧
    (k.state ≠ .up →
      exec (.crcFailureReceived l) s = .next s ∧
      ∀ (n : Byte) (kind : PacketKind) (payload : List Byte),
        (n ≠ 255 → exec (.ackReceived l n) s = .next s) ∧ exec (.nakReceived l n) s = .next s ∧
          exec (.idleReceived l n) s = .next s ∧ exec (.packetFrameReceived l n kind payload) s = .next s)

/-- What the hub puts on a link and when: handed ACKs and NAKs before any frame, in their order, no NAK before the partner
is confirmed; a packet under the next number into the replay buffer; TRAIN while the link is not UP; a pending LINK RESET,
with which the link goes DOWN, without a record and without a loss at the port unit; the ACK due; IDLE with nothing else to
send, and only then (R154, R155, R157, R159, section 9.6; an IDLE that is not due: log entry 2; log entries 11, 13, 14, 17;
what follows for a port or an OPEN target whose link is UP at the send of a LINK RESET: 20). -/
def Obligations.FramesGoOutOnTheLink : Prop :=
  ∀ (s : State) (l : LinkId),
    let k := s.link l
    let goes (h : Handed) : Bool :=
      match h with
      | .ack255 => true
      | .nak _ => decide (k.state = .up) && k.confirmed
    let frame (h : Handed) : Frame :=
      match h with
      | .ack255 => { number := 255, kind := 0x11, payload := [] }
      | .nak n => { number := n, kind := 0x12, payload := [] }
    let flushed (frames : List Frame) : Link :=
      { k with
        handed := k.handed.filter fun h => !goes h
        out := k.out ++ (k.handed.filter goes).map frame ++ frames
        nak :=
          if ∃ n, Handed.nak n ∈ k.handed ∧ k.state = .up ∧ k.confirmed = true then
            k.nak.map fun n => { n with deadline := some (s.clock + 32) }
          else k.nak }
    (∀ kind payload,
      let code : Byte :=
        match kind with
        | .request => 1
        | .response => 2
        | .credit => 3
        | .alert => 4
      let f : Frame := { number := k.nextNumber, kind := code, payload := payload }
      s.sendPacket l kind payload =
        s.setLink l { flushed [f] with nextNumber := k.nextNumber + 1, replay := k.replay ++ [f] }) ∧
    (k.state ≠ .up → k.resetPending = false →
      exec (.trainSend l) s = .next (s.setLink l (flushed
        [{ number := 255, kind := 0x10, payload := [match l with
          | .rp _ => 8
          | .tp _ => 0] }]))) ∧
    (k.resetPending = true →
      exec (.linkResetSend l) s = .next (s.setLink l { k with
        state := .down, ownAcked := false, replay := [], nak := none, silence := none, resetPending := false,
        handed := k.handed.filter (fun h => h = .ack255), ackDue := false,
        out := k.out ++ [{ number := 0, kind := 0x14, payload := [] }] })) ∧
    (k.resetPending = false →
      (∀ n, Handed.nak n ∈ k.handed → k.state = .up → k.confirmed = true →
        exec (.nakSend l) s = .next (s.setLink l (flushed []))) ∧
      (Handed.ack255 ∈ k.handed → exec (.ackSend l) s = .next (s.setLink l (flushed []))) ∧
      (Handed.ack255 ∉ k.handed → k.state = .up → k.ackDue = true →
        exec (.ackSend l) s = .next (s.setLink l
          { flushed [{ number := k.expected - 1, kind := 0x11, payload := [] }] with ackDue := false }))) ∧
    (let packet : Prop := k.confirmed = true ∧ k.replay.length < 64 ∧
      match l with
      | .rp p => 0 < (s.port p).due ∨ (s.port p).responses ≠ [] ∨ ∃ i, look (s.port p).alerts i ≠ Reasons.empty
      | .tp t => (s.target t).state = .opened ∧ 0 < (s.target t).credits ∧ (s.target t).egress ≠ []
    let idle : Prop := k.state = .up ∧ k.resetPending = false ∧ (∀ h ∈ k.handed, goes h = false) ∧ k.ackDue = false ∧ ¬packet
    (idle → exec (.idleSend l) s = .next (s.setLink l
      { k with out := k.out ++ [{ number := k.nextNumber, kind := 0x13, payload := [] }] })) ∧
    (¬idle → exec (.idleSend l) s = .next s))

/-- Frames taken while the link is UP: the packet frame expected is delivered, a duplicate is discarded, a gap or a failed
CRC makes a NAK for the number expected with a LINK RETRY record, one outstanding at a time, and each frame restarts the
silence deadline; what is no good frame is taken as a CRC failure (R153, R157, R158, R159, R161; the NAK's deadline:
log entry 13; the ACK due: 16). -/
def Obligations.FramesTakenAreDeliveredDiscardedOrRefused : Prop :=
  ∀ (s : State) (l : LinkId) (number : Byte) (kind : PacketKind) (payload : List Byte),
    let k := s.link l
    let heard : Link := { k with silence := some (s.clock + 64) }
    let confirmed : Link := { heard with confirmed := true }
    let ahead := (number - k.expected).toNat
    let retried (v : State) : State :=
      match l with
      | .rp p => v.report (.req p) { kind := .linkRetry, severity := .corrected, port := some p }
      | .tp t => v.report (.tgt t) { kind := .linkRetry, severity := .corrected, target := some t }
    let refused (x : Link) : State :=
      if k.nak = none then
        retried (s.setLink l { x with
          handed := x.handed ++ [.nak k.expected], nak := some { number := k.expected, count := 1, deadline := none } })
      else s.setLink l x
    let good : Prop := payload.length ≤ 74 ∧
      ((∃ p, l = .rp p) → kind = .request → 8 ≤ payload.length) ∧
      ((∃ t, l = .tp t) → (kind = .response → 4 ≤ payload.length) ∧ (kind = .credit → 1 ≤ payload.length))
    k.state = .up →
    (good → ahead = 0 →
      exec (.packetFrameReceived l number kind payload) s = .next
        ((s.setLink l { confirmed with
          expected := k.expected + 1
          nak := k.nak.filter (fun n => n.number ≠ number)
          ackDue := true }).deliver l kind payload)) ∧
    (good → 1 ≤ ahead → ahead ≤ 64 →
      exec (.packetFrameReceived l number kind payload) s = .next (refused confirmed)) ∧
    (good → 65 ≤ ahead → exec (.packetFrameReceived l number kind payload) s = .next (s.setLink l confirmed)) ∧
    (¬good → exec (.packetFrameReceived l number kind payload) s = exec (.crcFailureReceived l) s) ∧
    (number = k.expected → exec (.idleReceived l number) s = .next (s.setLink l confirmed)) ∧
    (number ≠ k.expected → exec (.idleReceived l number) s = .next (refused confirmed)) ∧
    (k.nak = none → exec (.crcFailureReceived l) s = .next (refused heard)) ∧
    (∀ n, k.nak = some n → n.count < 3 →
      exec (.crcFailureReceived l) s = .next (retried (s.setLink l { heard with
        handed := k.handed ++ [.nak n.number], nak := some { n with count := n.count + 1 } }))) ∧
    (∀ n d, k.nak = some n → n.count < 3 → n.deadline = some d → d ≤ s.clock →
      exec (.replayTimeout l) s = .next (retried (s.setLink l { k with
        handed := k.handed ++ [.nak n.number],
        nak := some { number := n.number, count := n.count + 1, deadline := none } })))

/-- A delivered packet is taken as its port unit's event: from a master a REQUEST arrives and any other packet arrives as
a request of no known kind; from a target a RESPONSE and a CREDIT are taken in, and a REQUEST or an ALERT is a breach that
fences it (R163, R164, section 9.6; the port unit's event as a row of its own: log entry 28; the further bytes of a
CREDIT: 30). -/
def Obligations.DeliveredPacketsReachTheirPortUnit : Prop :=
  ∀ (s : State) (payload : List Byte),
    (∀ p, (s.link (.rp p)).state = .up →
      exec (.requestArrival p
        { kind := byteAt payload 0, tag := byteAt payload 1, address := be40 payload 2, length := byteAt payload 7,
          data := payload.drop 8 }) s = .next (s.deliver (.rp p) .request payload) ∧
      ∀ kind, kind ≠ .request →
        exec (.requestArrival p { kind := 0, tag := 0, address := 0, length := 0, data := [] }) s =
          .next (s.deliver (.rp p) kind payload)) ∧
    (∀ t, (s.link (.tp t)).state = .up →
      exec (.responseIntake t
        { index := byteAt payload 0, generation := byteAt payload 1, status := byteAt payload 2,
          credit := byteAt payload 3, data := payload.drop 4 }) s = .next (s.deliver (.tp t) .response payload) ∧
      exec (.creditReturn t (byteAt payload 0)) s = .next (s.deliver (.tp t) .credit payload) ∧
      ∀ kind, (kind = .request ∨ kind = .alert) →
        ((s.target t).state = .opened →
          s.deliver (.tp t) kind payload =
            (s.report (.tgt t)
              { kind := .protocol, severity := .fatal, target := some t, detail := some (s.fenceDetail t) }).fence t) ∧
        ((s.target t).state ≠ .opened → s.deliver (.tp t) kind payload = s))

/-- ACKs and NAKs on the outbound side: an ACK frees the frames up to the one it names; a NAK frees the older ones and sends
the rest again, at most three times for one oldest frame, with a LINK RETRY record; a NAK for the next number frees all; any
other number changes nothing; an ACK carrying 255 is an ACK like any other (R155, R158, R160; a LINK RESET pending: log
entry 15; the ACK carrying 255: 29). -/
def Obligations.AcksFreeFramesAndNaksReplayThem : Prop :=
  ∀ (s : State) (l : LinkId) (n : Byte) (older : List Frame) (f : Frame) (newer : List Frame),
    let k := s.link l
    let heard : Link := { k with silence := some (s.clock + 64) }
    let count := if older = [] then k.replayCount else 0
    let retried (v : State) : State :=
      match l with
      | .rp p => v.report (.req p) { kind := .linkRetry, severity := .corrected, port := some p }
      | .tp t => v.report (.tgt t) { kind := .linkRetry, severity := .corrected, target := some t }
    k.state = .up →
    (k.replay = older ++ [f] ++ newer → f.number = n → (∀ g ∈ older, g.number ≠ n) →
      exec (.ackReceived l n) s = .next (s.setLink l { heard with replay := newer, replayCount := 0 }) ∧
      (count < 3 →
        let kept : Link := { heard with replay := [f] ++ newer, replayCount := count + 1 }
        exec (.nakReceived l n) s = .next (retried (s.setLink l
          (if k.resetPending then kept else kept.emit s.clock ([f] ++ newer)))))) ∧
    ((∀ g ∈ k.replay, g.number ≠ n) →
      exec (.ackReceived l n) s = .next (s.setLink l heard) ∧
      (n = k.nextNumber →
        exec (.nakReceived l n) s = .next (s.setLink l { heard with replay := [], replayCount := 0 })) ∧
      (n ≠ k.nextNumber → exec (.nakReceived l n) s = .next (s.setLink l heard))) ∧
    exec (.ack255Received l) s = exec (.ackReceived l 255) s

/-- The losses of a link: silence, a third failed replay either way, a LINK RESET of the partner, or its TRAIN once it was
confirmed; the link goes DOWN with its buffer emptied, the hub's own LINK RESET pends but for the partner's, and the port
unit takes the loss (R156, R159, R160, R161, R162; a NAK that counts from its handing: log entry 13; the handed frames: 14;
a TRAIN of any advertisement: 18). -/
def Obligations.LinkLossesTakeTheLinkDown : Prop :=
  ∀ (s : State) (l : LinkId) (n : Byte),
    let k := s.link l
    let heard : Link := { k with silence := some (s.clock + 64) }
    let lost (x : Link) (byPartner : Bool) : State :=
      (s.setLink l { x with
        state := .down, ownAcked := false, replay := [], nak := none, silence := none,
        handed := k.handed.filter (fun h => h = .ack255), ackDue := false, resetPending := !byPartner }).takeLoss l
    k.state = .up →
    (∀ d, k.silence = some d → d ≤ s.clock → exec (.silenceDeadline l) s = .next (lost k false)) ∧
    (∀ x, k.nak = some x → x.count = 3 →
      exec (.crcFailureReceived l) s = .next (lost heard false) ∧
      ∀ d, x.deadline = some d → d ≤ s.clock → exec (.replayTimeout l) s = .next (lost k false)) ∧
    (∀ f newer, k.replay = f :: newer → f.number = n → k.replayCount = 3 →
      exec (.nakReceived l n) s = .next (lost heard false)) ∧
    exec (.linkResetReceived l) s = .next (lost k true) ∧
    (k.confirmed = true → exec (.trainReceived l n) s = exec (.trainReceived l n) (lost k true))

/-- What a loss of its link does to a requester port unit: queues, credits due, alerts and snapshot emptied, entries marked,
a REQUESTER LINK LOSS record whose severity says whether it cost anything, and then the claim dropped; and to a target port
unit: an OPEN target is fenced with a FATAL record, a FENCED one gets a CORRECTED record (R31, R39, R120, R148). -/
def Obligations.PortUnitsTakeTheLoss : Prop :=
  ∀ s : State,
    (∀ p,
      let u := s.port p
      let marked (i : Fin 32) : Bool := decide ((s.entry i).state ≠ .free ∧ (s.entry i).port = p)
      let cost : Prop := u.ingress ≠ [] ∨ u.responses ≠ [] ∨ ∃ i, marked i = true
      let emptied : RequesterPort :=
        { u with ingress := [], responses := [], due := 0, alerts := Vector.replicate 11 Reasons.empty, snapshot := none,
                 outcome := none, offerDue := false }
      let severity (x : Severity) : Prop := (cost ∧ x = .uncorrected) ∨ (¬cost ∧ x = .corrected)
      ∃ v x, severity x ∧
        (∀ i, State.entry v i = { s.entry i with lost := (s.entry i).lost || marked i }) ∧
        { v with entries := s.entries } = s.setPort p emptied ∧
        (let w := v.report (.req p) { kind := .requesterLinkLoss, severity := x, port := some p }
        ((∀ c, s.claim = some c → c.holder ≠ p) → s.takeLoss (.rp p) = w) ∧
        (∀ c, s.claim = some c → c.holder = p →
          s.takeLoss (.rp p) =
            ({ w with claim := none }).report .hub { kind := .claimDropped, severity := .corrected, port := some p }))) ∧
    (∀ t,
      let loss (severity : Severity) : Report := { kind := .targetLinkLoss, severity, target := some t }
      ((s.target t).state = .opened →
        s.takeLoss (.tp t) =
          (s.report (.tgt t) { loss .fatal with detail := some (s.fenceDetail t) }).fence t) ∧
      ((s.target t).state = .fenced → s.takeLoss (.tp t) = s.report (.tgt t) (loss .corrected)))

/-! ## Frames as bytes -/

/-- A frame of the layout of section 9.6 is read back from its bytes, whatever its number, kind and payload, and the good
frames of the nine kinds stand for their commands. Bytes that are those of no frame stand for a CRC failure, and so does a
frame of good CRC exactly where its kind is none of the nine or its payload is not one of its kind. Fields of several bytes
stand most significant byte first (R153, section 9.6; the bit order of the CRC is the model's, log entry 21; that bytes of any
other count are no frame: 31). -/
def Obligations.FramesReadBackFromTheirBytes : Prop :=
  (∀ f : Frame, f.payload.length ≤ 74 → frameOfBytes (frameBytes f) = some f) ∧
  (∀ (l : LinkId) (n : Byte) (kind : PacketKind) (payload : List Byte),
    let code : Byte :=
      match kind with
      | .request => 1
      | .response => 2
      | .credit => 3
      | .alert => 4
    let fixed : Nat :=
      match l, kind with
      | .rp _, .request => 8
      | .tp _, .response => 4
      | .tp _, .credit => 1
      | _, _ => 0
    fixed ≤ payload.length → payload.length ≤ 74 →
    receivedCommand l (frameBytes { number := n, kind := code, payload := payload }) =
      .packetFrameReceived l n kind payload) ∧
  (∀ (l : LinkId) (bytes : List Byte),
    (∀ f : Frame, f.payload.length ≤ 255 → frameBytes f ≠ bytes) →
    receivedCommand l bytes = .crcFailureReceived l) ∧
  (∀ (l : LinkId) (f : Frame), f.payload.length ≤ 255 →
    let kind := f.kind.toNat
    let length := f.payload.length
    let short : Prop :=
      match l with
      | .rp _ => kind = 1 ∧ length < 8
      | .tp _ => (kind = 2 ∧ length < 4) ∨ (kind = 3 ∧ length < 1)
    (receivedCommand l (frameBytes f) = .crcFailureReceived l ↔
      kind ∉ [1, 2, 3, 4, 0x10, 0x11, 0x12, 0x13, 0x14] ∨ 74 < length ∨ short ∨ (kind = 0x10 ∧ length ≠ 1) ∨
        (0x11 ≤ kind ∧ length ≠ 0))) ∧
  (∀ (x : BitVec 16) (y : BitVec 32) (z : Address),
    (bytes16 x).map BitVec.toNat = [x.toNat / 2 ^ 8, x.toNat % 2 ^ 8] ∧
    (bytes32 y).map BitVec.toNat =
      [y.toNat / 2 ^ 24, y.toNat / 2 ^ 16 % 2 ^ 8, y.toNat / 2 ^ 8 % 2 ^ 8, y.toNat % 2 ^ 8] ∧
    (bytes40 z).map BitVec.toNat =
      [z.toNat / 2 ^ 32, z.toNat / 2 ^ 24 % 2 ^ 8, z.toNat / 2 ^ 16 % 2 ^ 8, z.toNat / 2 ^ 8 % 2 ^ 8, z.toNat % 2 ^ 8] ∧
    (∀ rest, be16 (bytes16 x ++ rest) 0 = x ∧ be32 (bytes32 y ++ rest) 0 = y ∧ be40 (bytes40 z ++ rest) 0 = z)) ∧
  (∀ (l : LinkId) (n : Byte),
    receivedCommand l (frameBytes { number := 255, kind := 0x10, payload := [n] }) = .trainReceived l n ∧
    receivedCommand l (frameBytes { number := n, kind := 0x12, payload := [] }) = .nakReceived l n ∧
    receivedCommand l (frameBytes { number := n, kind := 0x13, payload := [] }) = .idleReceived l n ∧
    receivedCommand l (frameBytes { number := 0, kind := 0x14, payload := [] }) = .linkResetReceived l ∧
    receivedCommand l (frameBytes { number := n, kind := 0x11, payload := [] }) =
      (if n = 255 then .ack255Received l else .ackReceived l n))

/-! ## Invariants and whole-machine rules -/

/-- No step takes the answers waiting for a master and the entries it is still owed past the 40 places of its response queue,
while the egress queues name QUEUED entries alone, which is part of what TrackerAndTargetsAreKeptByEveryStep has every step
keep (R42, R48, R145). -/
def Obligations.ResponseRoomIsKeptByEveryStep : Prop :=
  ∀ s t : State, step s = .next t → s.egressKept → s.roomKept → t.roomKept

/-- No step gives a bank more than 4 records or leaves its counter inconsistent (R87, R100, R102, R107). -/
def Obligations.BanksAndCountersAreKeptByEveryStep : Prop :=
  ∀ s t : State, step s = .next t → s.banksKept → t.banksKept

/-- Every step keeps the tracker, the egress queues and the targets together: each QUEUED entry stands once in the egress
queue of its target, deadlines stand exactly in ISSUED, LATE and ABANDONED, a target's abandon count is the number of its
ABANDONED entries, and a target that is not OPEN holds nothing (R35, R48, R66, R69, R118, R129). -/
def Obligations.TrackerAndTargetsAreKeptByEveryStep : Prop :=
  ∀ s t : State, step s = .next t → s.trackerKept → t.trackerKept

/-- Every step keeps the 8 credits of a requester port whose link is UP, and the bound of 8 of one whose link is not; and every
step but the send of a LINK RESET on a requester link that is UP keeps the empty queues, pending map and snapshot of a port
whose link is not UP, with its entries in use marked requester lost, while the egress queues name QUEUED entries alone, which is
part of what TrackerAndTargetsAreKeptByEveryStep has every step keep (R39, R48, R136, R137, R138, R148, R150; what the send of a
LINK RESET leaves to the next link UP: log entry 20). -/
def Obligations.CreditsAreKeptByEveryStep : Prop :=
  ∀ s t : State, step s = .next t →
    (s.creditsKept → t.creditsKept) ∧
    ((∀ p rest, s.pending = .linkResetSend (.rp p) :: rest → (s.link (.rp p)).state ≠ .up) →
      s.egressKept → s.idleKept → t.idleKept)

/-- Every step keeps each link within its bounds, and its silence deadline exactly while it is UP (R152, R161). -/
def Obligations.LinksAreKeptByEveryStep : Prop :=
  ∀ s t : State, step s = .next t → s.linksKept → t.linksKept

/-- Every step keeps every setting in its range, the active table within the commit check, and a target's credits and
advertisement within 0 to 16 (R2, R19, R38, R49, R61, R62, R63). -/
def Obligations.SettingsTableAndTargetCreditsAreKeptByEveryStep : Prop :=
  ∀ s t : State, step s = .next t → s.settingsKept ∧ s.activeKept ∧ s.targetCreditsKept →
    t.settingsKept ∧ t.activeKept ∧ t.targetCreditsKept

/-- The state after reset meets every invariant of this file. -/
def Obligations.ResetMeetsEveryInvariant : Prop :=
  State.reset.roomKept ∧ State.reset.banksKept ∧ State.reset.trackerKept ∧ State.reset.creditsKept ∧
    State.reset.idleKept ∧ State.reset.linksKept ∧ State.reset.settingsKept ∧ State.reset.activeKept ∧ State.reset.targetCreditsKept

/-- What only some commands change: the active table and its version, only a COMMIT and the resets; the hub leaves CONTAINED,
the rights lock is cleared and a target returns to DOWN only by a reset; the rights change only by a rights write and the
resets; and a FATAL record leaves its bank only by POP or a cold reset (R2, R32, R34, R87, R89, R118, R129, R135). -/
def Obligations.WhatOnlySomeCommandsChange : Prop :=
  ∀ (c : Instr) (s t : State), exec c s = .next t → c ≠ .coldReset →
    ((∀ p, c ≠ .pop p) → ∀ b, ∀ r ∈ (s.bank b).records, r.severity = .fatal → r ∈ (t.bank b).records) ∧
    (c ≠ .warmReset →
      ((∀ p, c ≠ .commit p) → t.active = s.active ∧ t.version = s.version) ∧
      (s.hub = .contained → t.hub = .contained) ∧
      (s.rightsLock = true → t.rightsLock = true) ∧
      (∀ u, (s.target u).state ≠ .down → (t.target u).state ≠ .down) ∧
      ((∀ p, c ≠ .rightsWrite p) → t.rights = s.rights) ∧
      (s.rightsLock = true → t.rights = s.rights))
end

