-- ==== Sys2Proof/Laws/Places.lean ====
section
/-! SUPPORT. The laws of a fixed bank of like things (read after write, write after write, read of a built bank), and the
places of links and banks. -/

namespace Sys2Proof

variable {α : Type} {n : Nat}

@[simp] theorem look_upd_same (v : Vector α n) (i : Fin n) (x : α) : look (upd v i x) i = x := by
  simp [look, upd]

@[simp] theorem look_upd_ne (v : Vector α n) {i j : Fin n} (x : α) (h : i ≠ j) : look (upd v i x) j = look v j := by
  have : i.val ≠ j.val := fun e => h (Fin.ext e)
  simp [look, upd, this]

theorem look_upd (v : Vector α n) (i j : Fin n) (x : α) :
    look (upd v i x) j = if i = j then x else look v j := by
  by_cases h : i = j
  · subst h; simp
  · simp [h]

@[simp] theorem look_tab (f : Fin n → α) (i : Fin n) : look (tab f) i = f i := by
  simp [look, tab]

@[simp] theorem look_replicate (x : α) (i : Fin n) : look (Vector.replicate n x) i = x := by
  simp [look]

/-- Two banks with the same content at every place are the same bank. -/
theorem bank_ext {v w : Vector α n} (h : ∀ i, look v i = look w i) : v = w := by
  apply Vector.ext
  intro i hi
  exact h ⟨i, hi⟩

@[simp] theorem upd_upd (v : Vector α n) (i : Fin n) (x y : α) : upd (upd v i x) i y = upd v i y := by
  apply bank_ext
  intro j
  by_cases h : i = j <;> simp [h]

@[simp] theorem upd_look (v : Vector α n) (i : Fin n) : upd v i (look v i) = v := by
  apply bank_ext
  intro j
  by_cases h : i = j
  · subst h; simp
  · simp [h]

@[simp] theorem tab_look (v : Vector α n) : tab (fun i => look v i) = v := by
  apply bank_ext
  simp

/-- A replacement of one place as a built bank. -/
theorem upd_eq_tab (v : Vector α n) (i : Fin n) (x : α) : upd v i x = tab fun j => if i = j then x else look v j := by
  apply bank_ext
  intro j
  simp [look_upd]

/-- The content of a bank as a list, by place. -/
theorem toList_eq_map_look (v : Vector α n) : v.toList = (List.finRange n).map (look v) := by
  apply List.ext_getElem
  · simp
  · intro i h₁ h₂
    simp [look]

/-- A replacement of one place takes the old content out of a count and puts the new one in. -/
theorem countP_upd (q : α → Bool) (v : Vector α n) (i : Fin n) (x : α) :
    (upd v i x).toList.countP q + (if q (look v i) then 1 else 0) = v.toList.countP q + (if q x then 1 else 0) := by
  have hi : i.val < v.toList.length := by simp
  have h := List.countP_set (p := q) (l := v.toList) (i := i.val) (a := x) hi
  have hl : v.toList[i.val] = look v i := by simp [look]
  simp only [upd, Vector.toList_set, h, hl]
  by_cases hq : q (look v i) = true
  · have : 0 < v.toList.countP q := List.countP_pos_iff.mpr ⟨look v i, by simp [look], hq⟩
    simp only [hq, if_true]
    omega
  · simp only [hq]
    simp

/-- Two different links stand at different places. -/
theorem linkId_idx_injective {l m : LinkId} (h : l.idx = m.idx) : l = m := by
  cases l <;> cases m <;> simp [LinkId.idx, Fin.ext_iff] at h ⊢ <;> omega

@[simp] theorem linkId_idx_inj (l m : LinkId) : l.idx = m.idx ↔ l = m :=
  ⟨linkId_idx_injective, fun h => h ▸ rfl⟩

/-- Two different banks stand at different places. -/
theorem bank_idx_injective {b c : Bank} (h : b.idx = c.idx) : b = c := by
  cases b <;> cases c <;> simp [Bank.idx, Fin.ext_iff] at h ⊢ <;> omega

@[simp] theorem bank_idx_inj (b c : Bank) : b.idx = c.idx ↔ b = c :=
  ⟨bank_idx_injective, fun h => h ▸ rfl⟩

/-- Every link stands at one of the ten places. -/
theorem linkId_idx_surjective (i : Fin 10) : ∃ l : LinkId, l.idx = i := by
  by_cases h : i.val < 4
  · exact ⟨.rp ⟨i.val, h⟩, by simp [LinkId.idx]⟩
  · exact ⟨.tp ⟨i.val - 4, by omega⟩, by simp [LinkId.idx, Fin.ext_iff]; omega⟩

/-- Every bank number names a bank. -/
@[simp] theorem bank_idx_ofIdx (i : Fin 11) : (Bank.ofIdx i).idx = i := by
  revert i; decide

/-- The bank of a bank's number is that bank. -/
@[simp] theorem bank_ofIdx_idx (b : Bank) : Bank.ofIdx b.idx = b := by
  cases b with
  | req p => revert p; decide
  | tgt t => revert t; decide
  | hub => decide

end Sys2Proof
end

