-- ==== Sys2Proof/Laws/Bytes.lean ====
section
/-! SUPPORT. Multi-byte fields and their bytes, most significant first: the number a field reads as, and the field read
back from the bytes it is written as (sections 9.6 and 10.3). -/

namespace Sys2Proof.Machine

/-- The number two joined fields stand for. -/
theorem toNat_join {m n : Nat} (x : BitVec m) (y : BitVec n) : (x ++ y).toNat = x.toNat * 2 ^ n + y.toNat := by
  rw [BitVec.toNat_append, Nat.shiftLeft_eq, Nat.mul_comm, ← Nat.two_pow_add_eq_or_of_lt y.isLt]

theorem be16_toNat (data : List Byte) (k : Nat) :
    (be16 data k).toNat = (byteAt data k).toNat * 256 + (byteAt data (k + 1)).toNat := toNat_join _ _

theorem be32_toNat (data : List Byte) (k : Nat) :
    (be32 data k).toNat = (be16 data k).toNat * 65536 + (be16 data (k + 2)).toNat := toNat_join _ _

theorem be40_toNat (data : List Byte) (k : Nat) :
    (be40 data k).toNat = (byteAt data k).toNat * 4294967296 + (be32 data (k + 1)).toNat := toNat_join _ _

@[simp] theorem byteAt_zero (b : Byte) (l : List Byte) : byteAt (b :: l) 0 = b := rfl
@[simp] theorem byteAt_succ (b : Byte) (l : List Byte) (k : Nat) : byteAt (b :: l) (k + 1) = byteAt l k := by
  simp [byteAt]

@[simp] theorem bytes16_length (w : BitVec 16) : (bytes16 w).length = 2 := rfl
@[simp] theorem bytes32_length (w : BitVec 32) : (bytes32 w).length = 4 := rfl
@[simp] theorem bytes40_length (w : Address) : (bytes40 w).length = 5 := rfl

/-- A byte sequence read behind others. -/
theorem byteAt_append (l l' : List Byte) (k : Nat) : byteAt (l ++ l') (l.length + k) = byteAt l' k := by
  simp [byteAt, List.getElem?_append_right]

/-- The halves of a 16-bit field. -/
@[simp] theorem join16 (w : BitVec 16) : w.extractLsb' 8 8 ++ w.extractLsb' 0 8 = w := by
  apply BitVec.eq_of_toNat_eq
  rw [toNat_join]
  simp only [BitVec.extractLsb'_toNat, Nat.shiftRight_eq_div_pow]
  have := w.isLt
  omega

/-- The halves of a 32-bit field. -/
@[simp] theorem join32 (w : BitVec 32) : w.extractLsb' 16 16 ++ w.extractLsb' 0 16 = w := by
  apply BitVec.eq_of_toNat_eq
  rw [toNat_join]
  simp only [BitVec.extractLsb'_toNat, Nat.shiftRight_eq_div_pow]
  have := w.isLt
  omega

/-- The first byte and the rest of a 40-bit field. -/
@[simp] theorem join40 (w : Address) : w.extractLsb' 32 8 ++ w.extractLsb' 0 32 = w := by
  apply BitVec.eq_of_toNat_eq
  rw [toNat_join]
  simp only [BitVec.extractLsb'_toNat, Nat.shiftRight_eq_div_pow]
  have := w.isLt
  omega

@[simp] theorem be16_bytes16 (w : BitVec 16) (l : List Byte) : be16 (bytes16 w ++ l) 0 = w := by
  simp [be16, bytes16]

@[simp] theorem be32_bytes32 (w : BitVec 32) (l : List Byte) : be32 (bytes32 w ++ l) 0 = w := by
  simp only [be32, be16, bytes32, bytes16, List.cons_append, List.nil_append, byteAt_zero, byteAt_succ, join16, join32]

@[simp] theorem be40_bytes40 (w : Address) (l : List Byte) : be40 (bytes40 w ++ l) 0 = w := by
  simp only [be40, be32, be16, bytes40, bytes32, bytes16, List.cons_append, List.nil_append, byteAt_zero, byteAt_succ,
    join16, join32, join40]

end Sys2Proof.Machine
end

