-- ==== Sys2Proof/Laws/State.lean ====
section
/-! SUPPORT. One lemma per field per update of the state, and what each update leaves at the place it writes. -/

namespace Sys2Proof.Machine

variable (s : State)

/-! ## setPort -/

@[simp] theorem State.setPort_clock (p : RP) (r : RequesterPort) : (s.setPort p r).clock = s.clock := rfl
@[simp] theorem State.setPort_hub (p : RP) (r : RequesterPort) : (s.setPort p r).hub = s.hub := rfl
@[simp] theorem State.setPort_active (p : RP) (r : RequesterPort) : (s.setPort p r).active = s.active := rfl
@[simp] theorem State.setPort_version (p : RP) (r : RequesterPort) : (s.setPort p r).version = s.version := rfl
@[simp] theorem State.setPort_claim (p : RP) (r : RequesterPort) : (s.setPort p r).claim = s.claim := rfl
@[simp] theorem State.setPort_rights (p : RP) (r : RequesterPort) : (s.setPort p r).rights = s.rights := rfl
@[simp] theorem State.setPort_rightsLock (p : RP) (r : RequesterPort) : (s.setPort p r).rightsLock = s.rightsLock := rfl
@[simp] theorem State.setPort_leaseMs (p : RP) (r : RequesterPort) : (s.setPort p r).leaseMs = s.leaseMs := rfl
@[simp] theorem State.setPort_entries (p : RP) (r : RequesterPort) : (s.setPort p r).entries = s.entries := rfl
@[simp] theorem State.setPort_lastGranted (p : RP) (r : RequesterPort) : (s.setPort p r).lastGranted = s.lastGranted := rfl
@[simp] theorem State.setPort_classIntervals (p : RP) (r : RequesterPort) : (s.setPort p r).classIntervals = s.classIntervals := rfl
@[simp] theorem State.setPort_reclaimMs (p : RP) (r : RequesterPort) : (s.setPort p r).reclaimMs = s.reclaimMs := rfl
@[simp] theorem State.setPort_targets (p : RP) (r : RequesterPort) : (s.setPort p r).targets = s.targets := rfl
@[simp] theorem State.setPort_links (p : RP) (r : RequesterPort) : (s.setPort p r).links = s.links := rfl
@[simp] theorem State.setPort_banks (p : RP) (r : RequesterPort) : (s.setPort p r).banks = s.banks := rfl
@[simp] theorem State.setPort_sequence (p : RP) (r : RequesterPort) : (s.setPort p r).sequence = s.sequence := rfl
@[simp] theorem State.setPort_freeCount (p : RP) (r : RequesterPort) : (s.setPort p r).freeCount = s.freeCount := rfl
@[simp] theorem State.setPort_pending (p : RP) (r : RequesterPort) : (s.setPort p r).pending = s.pending := rfl
@[simp] theorem State.setPort_target (p : RP) (r : RequesterPort) (u : TP) : (s.setPort p r).target u = s.target u := rfl
@[simp] theorem State.setPort_entry (p : RP) (r : RequesterPort) (j : Fin 32) : (s.setPort p r).entry j = s.entry j := rfl
@[simp] theorem State.setPort_link (p : RP) (r : RequesterPort) (m : LinkId) : (s.setPort p r).link m = s.link m := rfl
@[simp] theorem State.setPort_bank (p : RP) (r : RequesterPort) (c : Bank) : (s.setPort p r).bank c = s.bank c := rfl

/-! ## setTarget -/

@[simp] theorem State.setTarget_clock (t : TP) (r : TargetPort) : (s.setTarget t r).clock = s.clock := rfl
@[simp] theorem State.setTarget_hub (t : TP) (r : TargetPort) : (s.setTarget t r).hub = s.hub := rfl
@[simp] theorem State.setTarget_active (t : TP) (r : TargetPort) : (s.setTarget t r).active = s.active := rfl
@[simp] theorem State.setTarget_version (t : TP) (r : TargetPort) : (s.setTarget t r).version = s.version := rfl
@[simp] theorem State.setTarget_claim (t : TP) (r : TargetPort) : (s.setTarget t r).claim = s.claim := rfl
@[simp] theorem State.setTarget_rights (t : TP) (r : TargetPort) : (s.setTarget t r).rights = s.rights := rfl
@[simp] theorem State.setTarget_rightsLock (t : TP) (r : TargetPort) : (s.setTarget t r).rightsLock = s.rightsLock := rfl
@[simp] theorem State.setTarget_leaseMs (t : TP) (r : TargetPort) : (s.setTarget t r).leaseMs = s.leaseMs := rfl
@[simp] theorem State.setTarget_entries (t : TP) (r : TargetPort) : (s.setTarget t r).entries = s.entries := rfl
@[simp] theorem State.setTarget_lastGranted (t : TP) (r : TargetPort) : (s.setTarget t r).lastGranted = s.lastGranted := rfl
@[simp] theorem State.setTarget_classIntervals (t : TP) (r : TargetPort) : (s.setTarget t r).classIntervals = s.classIntervals := rfl
@[simp] theorem State.setTarget_reclaimMs (t : TP) (r : TargetPort) : (s.setTarget t r).reclaimMs = s.reclaimMs := rfl
@[simp] theorem State.setTarget_ports (t : TP) (r : TargetPort) : (s.setTarget t r).ports = s.ports := rfl
@[simp] theorem State.setTarget_links (t : TP) (r : TargetPort) : (s.setTarget t r).links = s.links := rfl
@[simp] theorem State.setTarget_banks (t : TP) (r : TargetPort) : (s.setTarget t r).banks = s.banks := rfl
@[simp] theorem State.setTarget_sequence (t : TP) (r : TargetPort) : (s.setTarget t r).sequence = s.sequence := rfl
@[simp] theorem State.setTarget_freeCount (t : TP) (r : TargetPort) : (s.setTarget t r).freeCount = s.freeCount := rfl
@[simp] theorem State.setTarget_pending (t : TP) (r : TargetPort) : (s.setTarget t r).pending = s.pending := rfl
@[simp] theorem State.setTarget_port (t : TP) (r : TargetPort) (q : RP) : (s.setTarget t r).port q = s.port q := rfl
@[simp] theorem State.setTarget_entry (t : TP) (r : TargetPort) (j : Fin 32) : (s.setTarget t r).entry j = s.entry j := rfl
@[simp] theorem State.setTarget_link (t : TP) (r : TargetPort) (m : LinkId) : (s.setTarget t r).link m = s.link m := rfl
@[simp] theorem State.setTarget_bank (t : TP) (r : TargetPort) (c : Bank) : (s.setTarget t r).bank c = s.bank c := rfl

/-! ## setEntry -/

@[simp] theorem State.setEntry_clock (i : Fin 32) (e : Entry) : (s.setEntry i e).clock = s.clock := rfl
@[simp] theorem State.setEntry_hub (i : Fin 32) (e : Entry) : (s.setEntry i e).hub = s.hub := rfl
@[simp] theorem State.setEntry_active (i : Fin 32) (e : Entry) : (s.setEntry i e).active = s.active := rfl
@[simp] theorem State.setEntry_version (i : Fin 32) (e : Entry) : (s.setEntry i e).version = s.version := rfl
@[simp] theorem State.setEntry_claim (i : Fin 32) (e : Entry) : (s.setEntry i e).claim = s.claim := rfl
@[simp] theorem State.setEntry_rights (i : Fin 32) (e : Entry) : (s.setEntry i e).rights = s.rights := rfl
@[simp] theorem State.setEntry_rightsLock (i : Fin 32) (e : Entry) : (s.setEntry i e).rightsLock = s.rightsLock := rfl
@[simp] theorem State.setEntry_leaseMs (i : Fin 32) (e : Entry) : (s.setEntry i e).leaseMs = s.leaseMs := rfl
@[simp] theorem State.setEntry_lastGranted (i : Fin 32) (e : Entry) : (s.setEntry i e).lastGranted = s.lastGranted := rfl
@[simp] theorem State.setEntry_classIntervals (i : Fin 32) (e : Entry) : (s.setEntry i e).classIntervals = s.classIntervals := rfl
@[simp] theorem State.setEntry_reclaimMs (i : Fin 32) (e : Entry) : (s.setEntry i e).reclaimMs = s.reclaimMs := rfl
@[simp] theorem State.setEntry_ports (i : Fin 32) (e : Entry) : (s.setEntry i e).ports = s.ports := rfl
@[simp] theorem State.setEntry_targets (i : Fin 32) (e : Entry) : (s.setEntry i e).targets = s.targets := rfl
@[simp] theorem State.setEntry_links (i : Fin 32) (e : Entry) : (s.setEntry i e).links = s.links := rfl
@[simp] theorem State.setEntry_banks (i : Fin 32) (e : Entry) : (s.setEntry i e).banks = s.banks := rfl
@[simp] theorem State.setEntry_sequence (i : Fin 32) (e : Entry) : (s.setEntry i e).sequence = s.sequence := rfl
@[simp] theorem State.setEntry_freeCount (i : Fin 32) (e : Entry) : (s.setEntry i e).freeCount = s.freeCount := rfl
@[simp] theorem State.setEntry_pending (i : Fin 32) (e : Entry) : (s.setEntry i e).pending = s.pending := rfl
@[simp] theorem State.setEntry_port (i : Fin 32) (e : Entry) (q : RP) : (s.setEntry i e).port q = s.port q := rfl
@[simp] theorem State.setEntry_target (i : Fin 32) (e : Entry) (u : TP) : (s.setEntry i e).target u = s.target u := rfl
@[simp] theorem State.setEntry_link (i : Fin 32) (e : Entry) (m : LinkId) : (s.setEntry i e).link m = s.link m := rfl
@[simp] theorem State.setEntry_bank (i : Fin 32) (e : Entry) (c : Bank) : (s.setEntry i e).bank c = s.bank c := rfl

/-! ## setLink -/

@[simp] theorem State.setLink_clock (l : LinkId) (k : Link) : (s.setLink l k).clock = s.clock := rfl
@[simp] theorem State.setLink_hub (l : LinkId) (k : Link) : (s.setLink l k).hub = s.hub := rfl
@[simp] theorem State.setLink_active (l : LinkId) (k : Link) : (s.setLink l k).active = s.active := rfl
@[simp] theorem State.setLink_version (l : LinkId) (k : Link) : (s.setLink l k).version = s.version := rfl
@[simp] theorem State.setLink_claim (l : LinkId) (k : Link) : (s.setLink l k).claim = s.claim := rfl
@[simp] theorem State.setLink_rights (l : LinkId) (k : Link) : (s.setLink l k).rights = s.rights := rfl
@[simp] theorem State.setLink_rightsLock (l : LinkId) (k : Link) : (s.setLink l k).rightsLock = s.rightsLock := rfl
@[simp] theorem State.setLink_leaseMs (l : LinkId) (k : Link) : (s.setLink l k).leaseMs = s.leaseMs := rfl
@[simp] theorem State.setLink_entries (l : LinkId) (k : Link) : (s.setLink l k).entries = s.entries := rfl
@[simp] theorem State.setLink_lastGranted (l : LinkId) (k : Link) : (s.setLink l k).lastGranted = s.lastGranted := rfl
@[simp] theorem State.setLink_classIntervals (l : LinkId) (k : Link) : (s.setLink l k).classIntervals = s.classIntervals := rfl
@[simp] theorem State.setLink_reclaimMs (l : LinkId) (k : Link) : (s.setLink l k).reclaimMs = s.reclaimMs := rfl
@[simp] theorem State.setLink_ports (l : LinkId) (k : Link) : (s.setLink l k).ports = s.ports := rfl
@[simp] theorem State.setLink_targets (l : LinkId) (k : Link) : (s.setLink l k).targets = s.targets := rfl
@[simp] theorem State.setLink_banks (l : LinkId) (k : Link) : (s.setLink l k).banks = s.banks := rfl
@[simp] theorem State.setLink_sequence (l : LinkId) (k : Link) : (s.setLink l k).sequence = s.sequence := rfl
@[simp] theorem State.setLink_freeCount (l : LinkId) (k : Link) : (s.setLink l k).freeCount = s.freeCount := rfl
@[simp] theorem State.setLink_pending (l : LinkId) (k : Link) : (s.setLink l k).pending = s.pending := rfl
@[simp] theorem State.setLink_port (l : LinkId) (k : Link) (q : RP) : (s.setLink l k).port q = s.port q := rfl
@[simp] theorem State.setLink_target (l : LinkId) (k : Link) (u : TP) : (s.setLink l k).target u = s.target u := rfl
@[simp] theorem State.setLink_entry (l : LinkId) (k : Link) (j : Fin 32) : (s.setLink l k).entry j = s.entry j := rfl
@[simp] theorem State.setLink_bank (l : LinkId) (k : Link) (c : Bank) : (s.setLink l k).bank c = s.bank c := rfl

/-! ## setBank -/

@[simp] theorem State.setBank_clock (b : Bank) (k : BankState) : (s.setBank b k).clock = s.clock := rfl
@[simp] theorem State.setBank_hub (b : Bank) (k : BankState) : (s.setBank b k).hub = s.hub := rfl
@[simp] theorem State.setBank_active (b : Bank) (k : BankState) : (s.setBank b k).active = s.active := rfl
@[simp] theorem State.setBank_version (b : Bank) (k : BankState) : (s.setBank b k).version = s.version := rfl
@[simp] theorem State.setBank_claim (b : Bank) (k : BankState) : (s.setBank b k).claim = s.claim := rfl
@[simp] theorem State.setBank_rights (b : Bank) (k : BankState) : (s.setBank b k).rights = s.rights := rfl
@[simp] theorem State.setBank_rightsLock (b : Bank) (k : BankState) : (s.setBank b k).rightsLock = s.rightsLock := rfl
@[simp] theorem State.setBank_leaseMs (b : Bank) (k : BankState) : (s.setBank b k).leaseMs = s.leaseMs := rfl
@[simp] theorem State.setBank_entries (b : Bank) (k : BankState) : (s.setBank b k).entries = s.entries := rfl
@[simp] theorem State.setBank_lastGranted (b : Bank) (k : BankState) : (s.setBank b k).lastGranted = s.lastGranted := rfl
@[simp] theorem State.setBank_classIntervals (b : Bank) (k : BankState) : (s.setBank b k).classIntervals = s.classIntervals := rfl
@[simp] theorem State.setBank_reclaimMs (b : Bank) (k : BankState) : (s.setBank b k).reclaimMs = s.reclaimMs := rfl
@[simp] theorem State.setBank_ports (b : Bank) (k : BankState) : (s.setBank b k).ports = s.ports := rfl
@[simp] theorem State.setBank_targets (b : Bank) (k : BankState) : (s.setBank b k).targets = s.targets := rfl
@[simp] theorem State.setBank_links (b : Bank) (k : BankState) : (s.setBank b k).links = s.links := rfl
@[simp] theorem State.setBank_sequence (b : Bank) (k : BankState) : (s.setBank b k).sequence = s.sequence := rfl
@[simp] theorem State.setBank_freeCount (b : Bank) (k : BankState) : (s.setBank b k).freeCount = s.freeCount := rfl
@[simp] theorem State.setBank_pending (b : Bank) (k : BankState) : (s.setBank b k).pending = s.pending := rfl
@[simp] theorem State.setBank_port (b : Bank) (k : BankState) (q : RP) : (s.setBank b k).port q = s.port q := rfl
@[simp] theorem State.setBank_target (b : Bank) (k : BankState) (u : TP) : (s.setBank b k).target u = s.target u := rfl
@[simp] theorem State.setBank_entry (b : Bank) (k : BankState) (j : Fin 32) : (s.setBank b k).entry j = s.entry j := rfl
@[simp] theorem State.setBank_link (b : Bank) (k : BankState) (m : LinkId) : (s.setBank b k).link m = s.link m := rfl

/-! ## modLink -/

@[simp] theorem State.modLink_clock (l : LinkId) (f : Link → Link) : (s.modLink l f).clock = s.clock := rfl
@[simp] theorem State.modLink_hub (l : LinkId) (f : Link → Link) : (s.modLink l f).hub = s.hub := rfl
@[simp] theorem State.modLink_active (l : LinkId) (f : Link → Link) : (s.modLink l f).active = s.active := rfl
@[simp] theorem State.modLink_version (l : LinkId) (f : Link → Link) : (s.modLink l f).version = s.version := rfl
@[simp] theorem State.modLink_claim (l : LinkId) (f : Link → Link) : (s.modLink l f).claim = s.claim := rfl
@[simp] theorem State.modLink_rights (l : LinkId) (f : Link → Link) : (s.modLink l f).rights = s.rights := rfl
@[simp] theorem State.modLink_rightsLock (l : LinkId) (f : Link → Link) : (s.modLink l f).rightsLock = s.rightsLock := rfl
@[simp] theorem State.modLink_leaseMs (l : LinkId) (f : Link → Link) : (s.modLink l f).leaseMs = s.leaseMs := rfl
@[simp] theorem State.modLink_entries (l : LinkId) (f : Link → Link) : (s.modLink l f).entries = s.entries := rfl
@[simp] theorem State.modLink_lastGranted (l : LinkId) (f : Link → Link) : (s.modLink l f).lastGranted = s.lastGranted := rfl
@[simp] theorem State.modLink_classIntervals (l : LinkId) (f : Link → Link) : (s.modLink l f).classIntervals = s.classIntervals := rfl
@[simp] theorem State.modLink_reclaimMs (l : LinkId) (f : Link → Link) : (s.modLink l f).reclaimMs = s.reclaimMs := rfl
@[simp] theorem State.modLink_ports (l : LinkId) (f : Link → Link) : (s.modLink l f).ports = s.ports := rfl
@[simp] theorem State.modLink_targets (l : LinkId) (f : Link → Link) : (s.modLink l f).targets = s.targets := rfl
@[simp] theorem State.modLink_banks (l : LinkId) (f : Link → Link) : (s.modLink l f).banks = s.banks := rfl
@[simp] theorem State.modLink_sequence (l : LinkId) (f : Link → Link) : (s.modLink l f).sequence = s.sequence := rfl
@[simp] theorem State.modLink_freeCount (l : LinkId) (f : Link → Link) : (s.modLink l f).freeCount = s.freeCount := rfl
@[simp] theorem State.modLink_pending (l : LinkId) (f : Link → Link) : (s.modLink l f).pending = s.pending := rfl
@[simp] theorem State.modLink_port (l : LinkId) (f : Link → Link) (q : RP) : (s.modLink l f).port q = s.port q := rfl
@[simp] theorem State.modLink_target (l : LinkId) (f : Link → Link) (u : TP) : (s.modLink l f).target u = s.target u := rfl
@[simp] theorem State.modLink_entry (l : LinkId) (f : Link → Link) (j : Fin 32) : (s.modLink l f).entry j = s.entry j := rfl
@[simp] theorem State.modLink_bank (l : LinkId) (f : Link → Link) (c : Bank) : (s.modLink l f).bank c = s.bank c := rfl

/-! ## raise -/

@[simp] theorem State.raise_clock (b : Bank) (x : Reason) : (s.raise b x).clock = s.clock := rfl
@[simp] theorem State.raise_hub (b : Bank) (x : Reason) : (s.raise b x).hub = s.hub := rfl
@[simp] theorem State.raise_active (b : Bank) (x : Reason) : (s.raise b x).active = s.active := rfl
@[simp] theorem State.raise_version (b : Bank) (x : Reason) : (s.raise b x).version = s.version := rfl
@[simp] theorem State.raise_claim (b : Bank) (x : Reason) : (s.raise b x).claim = s.claim := rfl
@[simp] theorem State.raise_rights (b : Bank) (x : Reason) : (s.raise b x).rights = s.rights := rfl
@[simp] theorem State.raise_rightsLock (b : Bank) (x : Reason) : (s.raise b x).rightsLock = s.rightsLock := rfl
@[simp] theorem State.raise_leaseMs (b : Bank) (x : Reason) : (s.raise b x).leaseMs = s.leaseMs := rfl
@[simp] theorem State.raise_entries (b : Bank) (x : Reason) : (s.raise b x).entries = s.entries := rfl
@[simp] theorem State.raise_lastGranted (b : Bank) (x : Reason) : (s.raise b x).lastGranted = s.lastGranted := rfl
@[simp] theorem State.raise_classIntervals (b : Bank) (x : Reason) : (s.raise b x).classIntervals = s.classIntervals := rfl
@[simp] theorem State.raise_reclaimMs (b : Bank) (x : Reason) : (s.raise b x).reclaimMs = s.reclaimMs := rfl
@[simp] theorem State.raise_targets (b : Bank) (x : Reason) : (s.raise b x).targets = s.targets := rfl
@[simp] theorem State.raise_links (b : Bank) (x : Reason) : (s.raise b x).links = s.links := rfl
@[simp] theorem State.raise_banks (b : Bank) (x : Reason) : (s.raise b x).banks = s.banks := rfl
@[simp] theorem State.raise_sequence (b : Bank) (x : Reason) : (s.raise b x).sequence = s.sequence := rfl
@[simp] theorem State.raise_freeCount (b : Bank) (x : Reason) : (s.raise b x).freeCount = s.freeCount := rfl
@[simp] theorem State.raise_pending (b : Bank) (x : Reason) : (s.raise b x).pending = s.pending := rfl
@[simp] theorem State.raise_target (b : Bank) (x : Reason) (u : TP) : (s.raise b x).target u = s.target u := rfl
@[simp] theorem State.raise_entry (b : Bank) (x : Reason) (j : Fin 32) : (s.raise b x).entry j = s.entry j := rfl
@[simp] theorem State.raise_link (b : Bank) (x : Reason) (m : LinkId) : (s.raise b x).link m = s.link m := rfl
@[simp] theorem State.raise_bank (b : Bank) (x : Reason) (c : Bank) : (s.raise b x).bank c = s.bank c := rfl

/-! ## offerAll -/

@[simp] theorem State.offerAll_clock : s.offerAll.clock = s.clock := rfl
@[simp] theorem State.offerAll_hub : s.offerAll.hub = s.hub := rfl
@[simp] theorem State.offerAll_active : s.offerAll.active = s.active := rfl
@[simp] theorem State.offerAll_version : s.offerAll.version = s.version := rfl
@[simp] theorem State.offerAll_claim : s.offerAll.claim = s.claim := rfl
@[simp] theorem State.offerAll_rights : s.offerAll.rights = s.rights := rfl
@[simp] theorem State.offerAll_rightsLock : s.offerAll.rightsLock = s.rightsLock := rfl
@[simp] theorem State.offerAll_leaseMs : s.offerAll.leaseMs = s.leaseMs := rfl
@[simp] theorem State.offerAll_entries : s.offerAll.entries = s.entries := rfl
@[simp] theorem State.offerAll_lastGranted : s.offerAll.lastGranted = s.lastGranted := rfl
@[simp] theorem State.offerAll_classIntervals : s.offerAll.classIntervals = s.classIntervals := rfl
@[simp] theorem State.offerAll_reclaimMs : s.offerAll.reclaimMs = s.reclaimMs := rfl
@[simp] theorem State.offerAll_targets : s.offerAll.targets = s.targets := rfl
@[simp] theorem State.offerAll_links : s.offerAll.links = s.links := rfl
@[simp] theorem State.offerAll_banks : s.offerAll.banks = s.banks := rfl
@[simp] theorem State.offerAll_sequence : s.offerAll.sequence = s.sequence := rfl
@[simp] theorem State.offerAll_freeCount : s.offerAll.freeCount = s.freeCount := rfl
@[simp] theorem State.offerAll_pending : s.offerAll.pending = s.pending := rfl
@[simp] theorem State.offerAll_target (u : TP) : s.offerAll.target u = s.target u := rfl
@[simp] theorem State.offerAll_entry (j : Fin 32) : s.offerAll.entry j = s.entry j := rfl
@[simp] theorem State.offerAll_link (m : LinkId) : s.offerAll.link m = s.link m := rfl
@[simp] theorem State.offerAll_bank (c : Bank) : s.offerAll.bank c = s.bank c := rfl

/-! ## endEntries -/

@[simp] theorem State.endEntries_clock (sel : Entry → Bool) (st : Status) : (s.endEntries sel st).clock = s.clock := by simp only [State.endEntries]
@[simp] theorem State.endEntries_hub (sel : Entry → Bool) (st : Status) : (s.endEntries sel st).hub = s.hub := by simp only [State.endEntries]
@[simp] theorem State.endEntries_active (sel : Entry → Bool) (st : Status) : (s.endEntries sel st).active = s.active := by simp only [State.endEntries]
@[simp] theorem State.endEntries_version (sel : Entry → Bool) (st : Status) : (s.endEntries sel st).version = s.version := by simp only [State.endEntries]
@[simp] theorem State.endEntries_claim (sel : Entry → Bool) (st : Status) : (s.endEntries sel st).claim = s.claim := by simp only [State.endEntries]
@[simp] theorem State.endEntries_rights (sel : Entry → Bool) (st : Status) : (s.endEntries sel st).rights = s.rights := by simp only [State.endEntries]
@[simp] theorem State.endEntries_rightsLock (sel : Entry → Bool) (st : Status) : (s.endEntries sel st).rightsLock = s.rightsLock := by simp only [State.endEntries]
@[simp] theorem State.endEntries_leaseMs (sel : Entry → Bool) (st : Status) : (s.endEntries sel st).leaseMs = s.leaseMs := by simp only [State.endEntries]
@[simp] theorem State.endEntries_lastGranted (sel : Entry → Bool) (st : Status) : (s.endEntries sel st).lastGranted = s.lastGranted := by simp only [State.endEntries]
@[simp] theorem State.endEntries_classIntervals (sel : Entry → Bool) (st : Status) : (s.endEntries sel st).classIntervals = s.classIntervals := by simp only [State.endEntries]
@[simp] theorem State.endEntries_reclaimMs (sel : Entry → Bool) (st : Status) : (s.endEntries sel st).reclaimMs = s.reclaimMs := by simp only [State.endEntries]
@[simp] theorem State.endEntries_targets (sel : Entry → Bool) (st : Status) : (s.endEntries sel st).targets = s.targets := by simp only [State.endEntries]
@[simp] theorem State.endEntries_links (sel : Entry → Bool) (st : Status) : (s.endEntries sel st).links = s.links := by simp only [State.endEntries]
@[simp] theorem State.endEntries_banks (sel : Entry → Bool) (st : Status) : (s.endEntries sel st).banks = s.banks := by simp only [State.endEntries]
@[simp] theorem State.endEntries_sequence (sel : Entry → Bool) (st : Status) : (s.endEntries sel st).sequence = s.sequence := by simp only [State.endEntries]
@[simp] theorem State.endEntries_freeCount (sel : Entry → Bool) (st : Status) : (s.endEntries sel st).freeCount = s.freeCount := by simp only [State.endEntries]
@[simp] theorem State.endEntries_pending (sel : Entry → Bool) (st : Status) : (s.endEntries sel st).pending = s.pending := by simp only [State.endEntries]
@[simp] theorem State.endEntries_target (sel : Entry → Bool) (st : Status) (u : TP) : (s.endEntries sel st).target u = s.target u := by simp [State.endEntries, State.target]
@[simp] theorem State.endEntries_link (sel : Entry → Bool) (st : Status) (m : LinkId) : (s.endEntries sel st).link m = s.link m := by simp [State.endEntries, State.link]
@[simp] theorem State.endEntries_bank (sel : Entry → Bool) (st : Status) (c : Bank) : (s.endEntries sel st).bank c = s.bank c := by simp [State.endEntries, State.bank]

/-! ## answerHead -/

@[simp] theorem State.answerHead_clock (p : RP) (a : Answer) : (s.answerHead p a).clock = s.clock := rfl
@[simp] theorem State.answerHead_hub (p : RP) (a : Answer) : (s.answerHead p a).hub = s.hub := rfl
@[simp] theorem State.answerHead_active (p : RP) (a : Answer) : (s.answerHead p a).active = s.active := rfl
@[simp] theorem State.answerHead_version (p : RP) (a : Answer) : (s.answerHead p a).version = s.version := rfl
@[simp] theorem State.answerHead_claim (p : RP) (a : Answer) : (s.answerHead p a).claim = s.claim := rfl
@[simp] theorem State.answerHead_rights (p : RP) (a : Answer) : (s.answerHead p a).rights = s.rights := rfl
@[simp] theorem State.answerHead_rightsLock (p : RP) (a : Answer) : (s.answerHead p a).rightsLock = s.rightsLock := rfl
@[simp] theorem State.answerHead_leaseMs (p : RP) (a : Answer) : (s.answerHead p a).leaseMs = s.leaseMs := rfl
@[simp] theorem State.answerHead_entries (p : RP) (a : Answer) : (s.answerHead p a).entries = s.entries := rfl
@[simp] theorem State.answerHead_lastGranted (p : RP) (a : Answer) : (s.answerHead p a).lastGranted = s.lastGranted := rfl
@[simp] theorem State.answerHead_classIntervals (p : RP) (a : Answer) : (s.answerHead p a).classIntervals = s.classIntervals := rfl
@[simp] theorem State.answerHead_reclaimMs (p : RP) (a : Answer) : (s.answerHead p a).reclaimMs = s.reclaimMs := rfl
@[simp] theorem State.answerHead_targets (p : RP) (a : Answer) : (s.answerHead p a).targets = s.targets := rfl
@[simp] theorem State.answerHead_links (p : RP) (a : Answer) : (s.answerHead p a).links = s.links := rfl
@[simp] theorem State.answerHead_banks (p : RP) (a : Answer) : (s.answerHead p a).banks = s.banks := rfl
@[simp] theorem State.answerHead_sequence (p : RP) (a : Answer) : (s.answerHead p a).sequence = s.sequence := rfl
@[simp] theorem State.answerHead_freeCount (p : RP) (a : Answer) : (s.answerHead p a).freeCount = s.freeCount := rfl
@[simp] theorem State.answerHead_pending (p : RP) (a : Answer) : (s.answerHead p a).pending = s.pending := rfl
@[simp] theorem State.answerHead_target (p : RP) (a : Answer) (u : TP) : (s.answerHead p a).target u = s.target u := rfl
@[simp] theorem State.answerHead_entry (p : RP) (a : Answer) (j : Fin 32) : (s.answerHead p a).entry j = s.entry j := rfl
@[simp] theorem State.answerHead_link (p : RP) (a : Answer) (m : LinkId) : (s.answerHead p a).link m = s.link m := rfl
@[simp] theorem State.answerHead_bank (p : RP) (a : Answer) (c : Bank) : (s.answerHead p a).bank c = s.bank c := rfl

/-! ## What stands at the place written -/

@[simp] theorem State.port_setPort_same (p : RP) (r : RequesterPort) : (s.setPort p r).port p = r := by
  simp [State.port, State.setPort]

@[simp] theorem State.port_setPort_ne {p q : RP} (r : RequesterPort) (h : p ≠ q) :
    (s.setPort p r).port q = s.port q := by
  simp [State.port, State.setPort, h]

@[simp] theorem State.target_setTarget_same (t : TP) (r : TargetPort) : (s.setTarget t r).target t = r := by
  simp [State.target, State.setTarget]

@[simp] theorem State.target_setTarget_ne {t u : TP} (r : TargetPort) (h : t ≠ u) :
    (s.setTarget t r).target u = s.target u := by
  simp [State.target, State.setTarget, h]

@[simp] theorem State.entry_setEntry_same (i : Fin 32) (e : Entry) : (s.setEntry i e).entry i = e := by
  simp [State.entry, State.setEntry]

@[simp] theorem State.entry_setEntry_ne {i j : Fin 32} (e : Entry) (h : i ≠ j) :
    (s.setEntry i e).entry j = s.entry j := by
  simp [State.entry, State.setEntry, h]

@[simp] theorem State.link_setLink_same (l : LinkId) (k : Link) : (s.setLink l k).link l = k := by
  simp [State.link, State.setLink]

@[simp] theorem State.link_setLink_ne {l m : LinkId} (k : Link) (h : l ≠ m) : (s.setLink l k).link m = s.link m := by
  simp [State.link, State.setLink, h]

@[simp] theorem State.bank_setBank_same (b : Bank) (k : BankState) : (s.setBank b k).bank b = k := by
  simp [State.bank, State.setBank]

@[simp] theorem State.bank_setBank_ne {b c : Bank} (k : BankState) (h : b ≠ c) : (s.setBank b k).bank c = s.bank c := by
  simp [State.bank, State.setBank, h]

@[simp] theorem State.setPort_setPort (p : RP) (r r' : RequesterPort) :
    (s.setPort p r).setPort p r' = s.setPort p r' := by
  simp [State.setPort]

@[simp] theorem State.setTarget_setTarget (t : TP) (r r' : TargetPort) :
    (s.setTarget t r).setTarget t r' = s.setTarget t r' := by
  simp [State.setTarget]

@[simp] theorem State.setEntry_setEntry (i : Fin 32) (e e' : Entry) :
    (s.setEntry i e).setEntry i e' = s.setEntry i e' := by
  simp [State.setEntry]

@[simp] theorem State.setLink_setLink (l : LinkId) (k k' : Link) : (s.setLink l k).setLink l k' = s.setLink l k' := by
  simp [State.setLink]

@[simp] theorem State.setBank_setBank (b : Bank) (k k' : BankState) :
    (s.setBank b k).setBank b k' = s.setBank b k' := by
  simp [State.setBank]

@[simp] theorem State.setPort_port (p : RP) : s.setPort p (s.port p) = s := by
  simp [State.setPort, State.port]

@[simp] theorem State.setTarget_target (t : TP) : s.setTarget t (s.target t) = s := by
  simp [State.setTarget, State.target]

@[simp] theorem State.setEntry_entry (i : Fin 32) : s.setEntry i (s.entry i) = s := by
  simp [State.setEntry, State.entry]

@[simp] theorem State.setLink_link (l : LinkId) : s.setLink l (s.link l) = s := by
  simp [State.setLink, State.link]

@[simp] theorem State.setBank_bank (b : Bank) : s.setBank b (s.bank b) = s := by
  simp [State.setBank, State.bank]

/-- Every requester port after the replacement of one. -/
theorem State.port_setPort (p q : RP) (r : RequesterPort) :
    (s.setPort p r).port q = if p = q then r else s.port q := by
  by_cases h : p = q
  · subst h; simp
  · simp [h]

/-- Every target port after the replacement of one. -/
theorem State.target_setTarget (t u : TP) (r : TargetPort) :
    (s.setTarget t r).target u = if t = u then r else s.target u := by
  by_cases h : t = u
  · subst h; simp
  · simp [h]

/-- Every entry after the replacement of one. -/
theorem State.entry_setEntry (i j : Fin 32) (e : Entry) :
    (s.setEntry i e).entry j = if i = j then e else s.entry j := by
  by_cases h : i = j
  · subst h; simp
  · simp [h]

/-- Every link after the replacement of one. -/
theorem State.link_setLink (l m : LinkId) (k : Link) :
    (s.setLink l k).link m = if l = m then k else s.link m := by
  by_cases h : l = m
  · subst h; simp
  · simp [h]

/-- Every bank after the replacement of one. -/
theorem State.bank_setBank (b c : Bank) (k : BankState) :
    (s.setBank b k).bank c = if b = c then k else s.bank c := by
  by_cases h : b = c
  · subst h; simp
  · simp [h]

@[simp] theorem State.link_modLink_same (l : LinkId) (f : Link → Link) : (s.modLink l f).link l = f (s.link l) := by
  simp [State.modLink]

@[simp] theorem State.link_modLink_ne {l m : LinkId} (f : Link → Link) (h : l ≠ m) :
    (s.modLink l f).link m = s.link m := by
  simp [State.modLink, h]

/-- What an offer event of all heads leaves at a port (R8). -/
@[simp] theorem State.port_offerAll (p : RP) : s.offerAll.port p = { s.port p with offerDue := true } := by
  simp [State.offerAll, State.port]

/-- What the leaving of an answered head leaves at its port (R138, R144). -/
@[simp] theorem State.port_answerHead_same (p : RP) (a : Answer) :
    (s.answerHead p a).port p =
      { s.port p with
        ingress := (s.port p).ingress.tail
        due := (s.port p).due + 1
        responses := (s.port p).responses ++ [a]
        outcome := none
        offerDue := true } := by
  simp [State.answerHead, State.place, State.leaveHead]

@[simp] theorem State.port_answerHead_ne {p q : RP} (a : Answer) (h : p ≠ q) :
    (s.answerHead p a).port q = s.port q := by
  simp [State.answerHead, State.place, State.leaveHead, h]

end Sys2Proof.Machine
end

