-- ==== Sys2Proof/Laws/Report.lean ====
section
/-! SUPPORT. What a report of a record changes and what it leaves (R85), and the held count of a port under the updates that
touch no entry. -/

namespace Sys2Proof.Machine

variable (s : State)

/-! ## raise -/

/-- The pending alerts of a port after a raised reason (R110). -/
theorem State.raise_alerts (b : Bank) (x : Reason) (q : RP) (i : Fin 11) :
    look ((s.raise b x).port q).alerts i =
      if s.routed b q = true ∧ i = b.idx then (look (s.port q).alerts i).add x else look (s.port q).alerts i := by
  simp only [State.raise, State.port, look_tab]
  cases h : s.routed b q
  · simp
  · by_cases h' : i = b.idx
    · subst h'; simp
    · simp [h', look_upd_ne _ _ (Ne.symm h')]

/-- A raised reason touches nothing of a port but its pending alerts (R110). -/
theorem State.raise_port (b : Bank) (x : Reason) (q : RP) :
    (s.raise b x).port q = { s.port q with alerts := ((s.raise b x).port q).alerts } := by
  simp only [State.raise, State.port, look_tab]
  split <;> rfl

/-- A raised reason touches nothing but the ports (R110). -/
theorem State.raise_eq (b : Bank) (x : Reason) : s.raise b x = { s with ports := (s.raise b x).ports } := rfl

/-- A port that is not routed, or whose link is not UP, is skipped (R110). -/
theorem State.raise_port_skipped {b : Bank} {q : RP} (x : Reason) (h : s.routed b q = false) :
    (s.raise b x).port q = s.port q := by
  simp [State.raise, State.port, h]

/-! ## report -/

/-- A masked kind changes nothing (R85). -/
theorem State.report_masked {b : Bank} {r : Report} (h : (s.bank b).masks r.kind = true) : s.report b r = s := by
  simp [State.report, h]

/-- The record, the counter and the bank after a report that is not masked (R80, R85, R87, R102). -/
def State.recorded (s : State) (b : Bank) (r : Report) : State :=
  ({ s with sequence := s.sequence + 1 }).setBank b
    { fullBank (s.bank b) (s.newRecord r) with counter := (s.bank b).counter.offer r.severity }

/-- A report that is not masked: the record, then the reasons it raises (R85, R108, R109). -/
theorem State.report_unmasked {b : Bank} {r : Report} (h : (s.bank b).masks r.kind = false) :
    s.report b r =
      let s₁ := s.recorded b r
      let s₂ := if atFloor r.severity (s.bank b).floor then s₁.raise b .record else s₁
      if ((s.bank b).counter.offer r.severity).tripped && !(s.bank b).counter.tripped then s₂.raise b .trip else s₂ := by
  simp [State.report, State.recorded, h]

/-- A report is nothing, or the record with at most two raised reasons. -/
theorem State.report_cases (b : Bank) (r : Report) :
    s.report b r = s ∨ s.report b r = s.recorded b r ∨ s.report b r = (s.recorded b r).raise b .record ∨
      s.report b r = (s.recorded b r).raise b .trip ∨
      s.report b r = ((s.recorded b r).raise b .record).raise b .trip := by
  cases h : (s.bank b).masks r.kind
  · rw [State.report_unmasked s h]
    dsimp only
    split <;> split <;> simp
  · simp [State.report_masked s h]

@[simp] theorem State.report_clock (b : Bank) (r : Report) : (s.report b r).clock = s.clock := by
  rcases s.report_cases b r with h | h | h | h | h <;> rw [h] <;> rfl
@[simp] theorem State.report_hub (b : Bank) (r : Report) : (s.report b r).hub = s.hub := by
  rcases s.report_cases b r with h | h | h | h | h <;> rw [h] <;> rfl
@[simp] theorem State.report_active (b : Bank) (r : Report) : (s.report b r).active = s.active := by
  rcases s.report_cases b r with h | h | h | h | h <;> rw [h] <;> rfl
@[simp] theorem State.report_version (b : Bank) (r : Report) : (s.report b r).version = s.version := by
  rcases s.report_cases b r with h | h | h | h | h <;> rw [h] <;> rfl
@[simp] theorem State.report_claim (b : Bank) (r : Report) : (s.report b r).claim = s.claim := by
  rcases s.report_cases b r with h | h | h | h | h <;> rw [h] <;> rfl
@[simp] theorem State.report_rights (b : Bank) (r : Report) : (s.report b r).rights = s.rights := by
  rcases s.report_cases b r with h | h | h | h | h <;> rw [h] <;> rfl
@[simp] theorem State.report_rightsLock (b : Bank) (r : Report) : (s.report b r).rightsLock = s.rightsLock := by
  rcases s.report_cases b r with h | h | h | h | h <;> rw [h] <;> rfl
@[simp] theorem State.report_leaseMs (b : Bank) (r : Report) : (s.report b r).leaseMs = s.leaseMs := by
  rcases s.report_cases b r with h | h | h | h | h <;> rw [h] <;> rfl
@[simp] theorem State.report_entries (b : Bank) (r : Report) : (s.report b r).entries = s.entries := by
  rcases s.report_cases b r with h | h | h | h | h <;> rw [h] <;> rfl
@[simp] theorem State.report_lastGranted (b : Bank) (r : Report) : (s.report b r).lastGranted = s.lastGranted := by
  rcases s.report_cases b r with h | h | h | h | h <;> rw [h] <;> rfl
@[simp] theorem State.report_classIntervals (b : Bank) (r : Report) : (s.report b r).classIntervals = s.classIntervals := by
  rcases s.report_cases b r with h | h | h | h | h <;> rw [h] <;> rfl
@[simp] theorem State.report_reclaimMs (b : Bank) (r : Report) : (s.report b r).reclaimMs = s.reclaimMs := by
  rcases s.report_cases b r with h | h | h | h | h <;> rw [h] <;> rfl
@[simp] theorem State.report_targets (b : Bank) (r : Report) : (s.report b r).targets = s.targets := by
  rcases s.report_cases b r with h | h | h | h | h <;> rw [h] <;> rfl
@[simp] theorem State.report_links (b : Bank) (r : Report) : (s.report b r).links = s.links := by
  rcases s.report_cases b r with h | h | h | h | h <;> rw [h] <;> rfl
@[simp] theorem State.report_freeCount (b : Bank) (r : Report) : (s.report b r).freeCount = s.freeCount := by
  rcases s.report_cases b r with h | h | h | h | h <;> rw [h] <;> rfl
@[simp] theorem State.report_pending (b : Bank) (r : Report) : (s.report b r).pending = s.pending := by
  rcases s.report_cases b r with h | h | h | h | h <;> rw [h] <;> rfl
@[simp] theorem State.report_target (b : Bank) (r : Report) (u : TP) : (s.report b r).target u = s.target u := by
  simp [State.target]
@[simp] theorem State.report_entry (b : Bank) (r : Report) (j : Fin 32) : (s.report b r).entry j = s.entry j := by
  simp [State.entry]
@[simp] theorem State.report_link (b : Bank) (r : Report) (m : LinkId) : (s.report b r).link m = s.link m := by
  simp [State.link]

@[simp] theorem State.report_bank_ne {b c : Bank} (r : Report) (h : b ≠ c) : (s.report b r).bank c = s.bank c := by
  rcases s.report_cases b r with h' | h' | h' | h' | h' <;> rw [h'] <;>
    first | rfl | exact State.bank_setBank_ne _ _ h

/-- A report touches nothing of a port but its pending alerts (R85, R110). -/
theorem State.report_port (b : Bank) (r : Report) (q : RP) :
    (s.report b r).port q = { s.port q with alerts := ((s.report b r).port q).alerts } := by
  rcases s.report_cases b r with h | h | h | h | h
  · rw [h]
  · rw [h]; rfl
  · rw [h]; exact State.raise_port (s.recorded b r) b .record q
  · rw [h]; exact State.raise_port (s.recorded b r) b .trip q
  · rw [h]
    refine (State.raise_port ((s.recorded b r).raise b .record) b .trip q).trans ?_
    rw [State.raise_port (s.recorded b r) b .record q]
    rfl

/-- A report touches nothing but the banks, the sequence counter and the ports' alerts (R85). -/
theorem State.report_eq (b : Bank) (r : Report) :
    s.report b r = { s with
      sequence := (s.report b r).sequence, banks := (s.report b r).banks, ports := (s.report b r).ports } := by
  rcases s.report_cases b r with h | h | h | h | h <;> rw [h] <;> rfl

/-! ## Fields of a port under a report or a raised reason -/

@[simp] theorem State.raise_port_ingress (b : Bank) (x : Reason) (q : RP) :
    ((s.raise b x).port q).ingress = (s.port q).ingress := by
  rw [State.raise_port]

@[simp] theorem State.report_port_ingress (b : Bank) (r : Report) (q : RP) :
    ((s.report b r).port q).ingress = (s.port q).ingress := by
  rw [State.report_port]

@[simp] theorem State.raise_port_reckoning (b : Bank) (x : Reason) (q : RP) :
    ((s.raise b x).port q).reckoning = (s.port q).reckoning := by
  rw [State.raise_port]

@[simp] theorem State.report_port_reckoning (b : Bank) (r : Report) (q : RP) :
    ((s.report b r).port q).reckoning = (s.port q).reckoning := by
  rw [State.report_port]

@[simp] theorem State.raise_port_due (b : Bank) (x : Reason) (q : RP) :
    ((s.raise b x).port q).due = (s.port q).due := by
  rw [State.raise_port]

@[simp] theorem State.report_port_due (b : Bank) (r : Report) (q : RP) :
    ((s.report b r).port q).due = (s.port q).due := by
  rw [State.report_port]

@[simp] theorem State.raise_port_responses (b : Bank) (x : Reason) (q : RP) :
    ((s.raise b x).port q).responses = (s.port q).responses := by
  rw [State.raise_port]

@[simp] theorem State.report_port_responses (b : Bank) (r : Report) (q : RP) :
    ((s.report b r).port q).responses = (s.port q).responses := by
  rw [State.report_port]

@[simp] theorem State.raise_port_lastKind (b : Bank) (x : Reason) (q : RP) :
    ((s.raise b x).port q).lastKind = (s.port q).lastKind := by
  rw [State.raise_port]

@[simp] theorem State.report_port_lastKind (b : Bank) (r : Report) (q : RP) :
    ((s.report b r).port q).lastKind = (s.port q).lastKind := by
  rw [State.report_port]

@[simp] theorem State.raise_port_snapshot (b : Bank) (x : Reason) (q : RP) :
    ((s.raise b x).port q).snapshot = (s.port q).snapshot := by
  rw [State.raise_port]

@[simp] theorem State.report_port_snapshot (b : Bank) (r : Report) (q : RP) :
    ((s.report b r).port q).snapshot = (s.port q).snapshot := by
  rw [State.report_port]

@[simp] theorem State.raise_port_cap (b : Bank) (x : Reason) (q : RP) :
    ((s.raise b x).port q).cap = (s.port q).cap := by
  rw [State.raise_port]

@[simp] theorem State.report_port_cap (b : Bank) (r : Report) (q : RP) :
    ((s.report b r).port q).cap = (s.port q).cap := by
  rw [State.report_port]

@[simp] theorem State.raise_port_outcome (b : Bank) (x : Reason) (q : RP) :
    ((s.raise b x).port q).outcome = (s.port q).outcome := by
  rw [State.raise_port]

@[simp] theorem State.report_port_outcome (b : Bank) (r : Report) (q : RP) :
    ((s.report b r).port q).outcome = (s.port q).outcome := by
  rw [State.report_port]

@[simp] theorem State.raise_port_offerDue (b : Bank) (x : Reason) (q : RP) :
    ((s.raise b x).port q).offerDue = (s.port q).offerDue := by
  rw [State.raise_port]

@[simp] theorem State.report_port_offerDue (b : Bank) (r : Report) (q : RP) :
    ((s.report b r).port q).offerDue = (s.port q).offerDue := by
  rw [State.report_port]

/-! ## The held count -/

/-- Two states with the same entries have the same held counts (R38). -/
theorem State.heldCount_congr {s t : State} (h : t.entries = s.entries) (p : RP) : t.heldCount p = s.heldCount p := by
  simp [State.heldCount, h]

/-- What replacing an entry does to a held count. -/
theorem State.heldCount_setEntry (i : Fin 32) (e : Entry) (p : RP) :
    (s.setEntry i e).heldCount p + (if (s.entry i).heldBy p then 1 else 0) =
      s.heldCount p + (if e.heldBy p then 1 else 0) :=
  countP_upd (fun x : Entry => x.heldBy p) s.entries i e

@[simp] theorem State.setPort_heldCount (q : RP) (r : RequesterPort) (p : RP) : (s.setPort q r).heldCount p = s.heldCount p := rfl
@[simp] theorem State.setTarget_heldCount (t : TP) (r : TargetPort) (p : RP) : (s.setTarget t r).heldCount p = s.heldCount p := rfl
@[simp] theorem State.setLink_heldCount (l : LinkId) (k : Link) (p : RP) : (s.setLink l k).heldCount p = s.heldCount p := rfl
@[simp] theorem State.setBank_heldCount (b : Bank) (k : BankState) (p : RP) : (s.setBank b k).heldCount p = s.heldCount p := rfl
@[simp] theorem State.modLink_heldCount (l : LinkId) (f : Link → Link) (p : RP) : (s.modLink l f).heldCount p = s.heldCount p := rfl
@[simp] theorem State.offerAll_heldCount  (p : RP) : (s.offerAll).heldCount p = s.heldCount p := rfl
@[simp] theorem State.raise_heldCount (b : Bank) (x : Reason) (p : RP) : (s.raise b x).heldCount p = s.heldCount p := rfl
@[simp] theorem State.answerHead_heldCount (q : RP) (a : Answer) (p : RP) : (s.answerHead q a).heldCount p = s.heldCount p := rfl
@[simp] theorem State.report_heldCount (b : Bank) (r : Report) (p : RP) : (s.report b r).heldCount p = s.heldCount p :=
  State.heldCount_congr (by simp) p

end Sys2Proof.Machine
end

