-- ==== Sys2Proof/Laws/Cutoff.lean ====
section
/-! SUPPORT. What the operations that cut off change: the fence of a target, the containment of the hub, and the losses of a
link leave every field they do not name as it was (R121, R130, R148). -/

namespace Sys2Proof.Machine

variable (s : State)

/-- A read of the state that no raised reason changes is the same after the reasons of containment. -/
theorem foldl_raise_fence {α : Type} (g : State → α) (h : ∀ s b x, g (State.raise s b x) = g s) (P : TP → Prop)
    [DecidablePred P] (l : List TP) (s : State) :
    g (l.foldl (fun x t => if P t then x.raise (.tgt t) .fence else x) s) = g s := by
  induction l generalizing s with
  | nil => rfl
  | cons t l ih =>
    rw [List.foldl_cons, ih]
    split
    · exact h _ _ _
    · rfl

/-! ## endEntries -/

/-- An entry after the ending of the selected ones (R121, R130). -/
theorem State.endEntries_entry (sel : Entry → Bool) (st : Status) (i : Fin 32) :
    (s.endEntries sel st).entry i =
      if sel (s.entry i) && (s.entry i).state ≠ .free then (s.entry i).freed else s.entry i := by
  simp only [State.endEntries, State.entry, look_tab]
  congr

/-- A port after the ending of the selected entries: their answers, in ascending entry index, and nothing else
(R121, R130). -/
theorem State.endEntries_port (sel : Entry → Bool) (st : Status) (p : RP) :
    (s.endEntries sel st).port p =
      { s.port p with
        responses := (s.port p).responses ++
          ((List.finRange 32).filter fun i =>
            sel (s.entry i) && (s.entry i).live && !(s.entry i).lost && decide ((s.entry i).port = p)).map
            fun i => (s.entry i).hubAnswer st } := by
  simp only [State.endEntries, State.port, State.endAnswers, look_tab, toList_eq_map_look, List.filter_map, List.map_map]
  rfl

/-! ## sendPacket -/

@[simp] theorem State.sendPacket_clock (l : LinkId) (k : PacketKind) (x : List Byte) : (s.sendPacket l k x).clock = s.clock := by
  rfl
@[simp] theorem State.sendPacket_hub (l : LinkId) (k : PacketKind) (x : List Byte) : (s.sendPacket l k x).hub = s.hub := by
  rfl
@[simp] theorem State.sendPacket_active (l : LinkId) (k : PacketKind) (x : List Byte) : (s.sendPacket l k x).active = s.active := by
  rfl
@[simp] theorem State.sendPacket_version (l : LinkId) (k : PacketKind) (x : List Byte) : (s.sendPacket l k x).version = s.version := by
  rfl
@[simp] theorem State.sendPacket_claim (l : LinkId) (k : PacketKind) (x : List Byte) : (s.sendPacket l k x).claim = s.claim := by
  rfl
@[simp] theorem State.sendPacket_rights (l : LinkId) (k : PacketKind) (x : List Byte) : (s.sendPacket l k x).rights = s.rights := by
  rfl
@[simp] theorem State.sendPacket_rightsLock (l : LinkId) (k : PacketKind) (x : List Byte) : (s.sendPacket l k x).rightsLock = s.rightsLock := by
  rfl
@[simp] theorem State.sendPacket_leaseMs (l : LinkId) (k : PacketKind) (x : List Byte) : (s.sendPacket l k x).leaseMs = s.leaseMs := by
  rfl
@[simp] theorem State.sendPacket_entries (l : LinkId) (k : PacketKind) (x : List Byte) : (s.sendPacket l k x).entries = s.entries := by
  rfl
@[simp] theorem State.sendPacket_lastGranted (l : LinkId) (k : PacketKind) (x : List Byte) : (s.sendPacket l k x).lastGranted = s.lastGranted := by
  rfl
@[simp] theorem State.sendPacket_classIntervals (l : LinkId) (k : PacketKind) (x : List Byte) : (s.sendPacket l k x).classIntervals = s.classIntervals := by
  rfl
@[simp] theorem State.sendPacket_reclaimMs (l : LinkId) (k : PacketKind) (x : List Byte) : (s.sendPacket l k x).reclaimMs = s.reclaimMs := by
  rfl
@[simp] theorem State.sendPacket_ports (l : LinkId) (k : PacketKind) (x : List Byte) : (s.sendPacket l k x).ports = s.ports := by
  rfl
@[simp] theorem State.sendPacket_targets (l : LinkId) (k : PacketKind) (x : List Byte) : (s.sendPacket l k x).targets = s.targets := by
  rfl
@[simp] theorem State.sendPacket_banks (l : LinkId) (k : PacketKind) (x : List Byte) : (s.sendPacket l k x).banks = s.banks := by
  rfl
@[simp] theorem State.sendPacket_sequence (l : LinkId) (k : PacketKind) (x : List Byte) : (s.sendPacket l k x).sequence = s.sequence := by
  rfl
@[simp] theorem State.sendPacket_freeCount (l : LinkId) (k : PacketKind) (x : List Byte) : (s.sendPacket l k x).freeCount = s.freeCount := by
  rfl
@[simp] theorem State.sendPacket_pending (l : LinkId) (k : PacketKind) (x : List Byte) : (s.sendPacket l k x).pending = s.pending := by
  rfl

@[simp] theorem State.sendPacket_port (l : LinkId) (k : PacketKind) (x : List Byte) (q : RP) :
    (s.sendPacket l k x).port q = s.port q := rfl
@[simp] theorem State.sendPacket_target (l : LinkId) (k : PacketKind) (x : List Byte) (u : TP) :
    (s.sendPacket l k x).target u = s.target u := rfl
@[simp] theorem State.sendPacket_entry (l : LinkId) (k : PacketKind) (x : List Byte) (j : Fin 32) :
    (s.sendPacket l k x).entry j = s.entry j := rfl
@[simp] theorem State.sendPacket_bank (l : LinkId) (k : PacketKind) (x : List Byte) (c : Bank) :
    (s.sendPacket l k x).bank c = s.bank c := rfl
@[simp] theorem State.sendPacket_heldCount (l : LinkId) (k : PacketKind) (x : List Byte) (q : RP) :
    (s.sendPacket l k x).heldCount q = s.heldCount q := rfl

/-! ## dropClaim -/

@[simp] theorem State.dropClaim_clock  : (s.dropClaim).clock = s.clock := by
  rfl
@[simp] theorem State.dropClaim_hub  : (s.dropClaim).hub = s.hub := by
  rfl
@[simp] theorem State.dropClaim_active  : (s.dropClaim).active = s.active := by
  rfl
@[simp] theorem State.dropClaim_version  : (s.dropClaim).version = s.version := by
  rfl
@[simp] theorem State.dropClaim_rights  : (s.dropClaim).rights = s.rights := by
  rfl
@[simp] theorem State.dropClaim_rightsLock  : (s.dropClaim).rightsLock = s.rightsLock := by
  rfl
@[simp] theorem State.dropClaim_leaseMs  : (s.dropClaim).leaseMs = s.leaseMs := by
  rfl
@[simp] theorem State.dropClaim_entries  : (s.dropClaim).entries = s.entries := by
  rfl
@[simp] theorem State.dropClaim_lastGranted  : (s.dropClaim).lastGranted = s.lastGranted := by
  rfl
@[simp] theorem State.dropClaim_classIntervals  : (s.dropClaim).classIntervals = s.classIntervals := by
  rfl
@[simp] theorem State.dropClaim_reclaimMs  : (s.dropClaim).reclaimMs = s.reclaimMs := by
  rfl
@[simp] theorem State.dropClaim_ports  : (s.dropClaim).ports = s.ports := by
  rfl
@[simp] theorem State.dropClaim_targets  : (s.dropClaim).targets = s.targets := by
  rfl
@[simp] theorem State.dropClaim_links  : (s.dropClaim).links = s.links := by
  rfl
@[simp] theorem State.dropClaim_banks  : (s.dropClaim).banks = s.banks := by
  rfl
@[simp] theorem State.dropClaim_sequence  : (s.dropClaim).sequence = s.sequence := by
  rfl
@[simp] theorem State.dropClaim_freeCount  : (s.dropClaim).freeCount = s.freeCount := by
  rfl
@[simp] theorem State.dropClaim_pending  : (s.dropClaim).pending = s.pending := by
  rfl

@[simp] theorem State.dropClaim_claim : s.dropClaim.claim = none := rfl
@[simp] theorem State.dropClaim_port (q : RP) : s.dropClaim.port q = s.port q := rfl
@[simp] theorem State.dropClaim_target (u : TP) : s.dropClaim.target u = s.target u := rfl
@[simp] theorem State.dropClaim_entry (j : Fin 32) : s.dropClaim.entry j = s.entry j := rfl
@[simp] theorem State.dropClaim_link (m : LinkId) : s.dropClaim.link m = s.link m := rfl
@[simp] theorem State.dropClaim_bank (c : Bank) : s.dropClaim.bank c = s.bank c := rfl
@[simp] theorem State.dropClaim_heldCount (q : RP) : s.dropClaim.heldCount q = s.heldCount q := rfl

/-! ## markLost -/

@[simp] theorem State.markLost_clock (p : RP) : (s.markLost p).clock = s.clock := by
  simp only [State.markLost]
@[simp] theorem State.markLost_hub (p : RP) : (s.markLost p).hub = s.hub := by
  simp only [State.markLost]
@[simp] theorem State.markLost_active (p : RP) : (s.markLost p).active = s.active := by
  simp only [State.markLost]
@[simp] theorem State.markLost_version (p : RP) : (s.markLost p).version = s.version := by
  simp only [State.markLost]
@[simp] theorem State.markLost_claim (p : RP) : (s.markLost p).claim = s.claim := by
  simp only [State.markLost]
@[simp] theorem State.markLost_rights (p : RP) : (s.markLost p).rights = s.rights := by
  simp only [State.markLost]
@[simp] theorem State.markLost_rightsLock (p : RP) : (s.markLost p).rightsLock = s.rightsLock := by
  simp only [State.markLost]
@[simp] theorem State.markLost_leaseMs (p : RP) : (s.markLost p).leaseMs = s.leaseMs := by
  simp only [State.markLost]
@[simp] theorem State.markLost_lastGranted (p : RP) : (s.markLost p).lastGranted = s.lastGranted := by
  simp only [State.markLost]
@[simp] theorem State.markLost_classIntervals (p : RP) : (s.markLost p).classIntervals = s.classIntervals := by
  simp only [State.markLost]
@[simp] theorem State.markLost_reclaimMs (p : RP) : (s.markLost p).reclaimMs = s.reclaimMs := by
  simp only [State.markLost]
@[simp] theorem State.markLost_ports (p : RP) : (s.markLost p).ports = s.ports := by
  simp only [State.markLost]
@[simp] theorem State.markLost_targets (p : RP) : (s.markLost p).targets = s.targets := by
  simp only [State.markLost]
@[simp] theorem State.markLost_links (p : RP) : (s.markLost p).links = s.links := by
  simp only [State.markLost]
@[simp] theorem State.markLost_banks (p : RP) : (s.markLost p).banks = s.banks := by
  simp only [State.markLost]
@[simp] theorem State.markLost_sequence (p : RP) : (s.markLost p).sequence = s.sequence := by
  simp only [State.markLost]
@[simp] theorem State.markLost_freeCount (p : RP) : (s.markLost p).freeCount = s.freeCount := by
  simp only [State.markLost]
@[simp] theorem State.markLost_pending (p : RP) : (s.markLost p).pending = s.pending := by
  simp only [State.markLost]

@[simp] theorem State.markLost_port (p q : RP) : (s.markLost p).port q = s.port q := by simp only [State.markLost, State.port]
@[simp] theorem State.markLost_target (p : RP) (u : TP) : (s.markLost p).target u = s.target u := by simp only [State.markLost, State.target]
@[simp] theorem State.markLost_link (p : RP) (m : LinkId) : (s.markLost p).link m = s.link m := by simp only [State.markLost, State.link]
@[simp] theorem State.markLost_bank (p : RP) (c : Bank) : (s.markLost p).bank c = s.bank c := by simp only [State.markLost, State.bank]

@[simp] theorem State.markLost_entry (p : RP) (i : Fin 32) :
    (s.markLost p).entry i =
      { s.entry i with lost := (s.entry i).lost || decide ((s.entry i).state ≠ .free ∧ (s.entry i).port = p) } := by
  simp only [State.markLost, State.entry, look_tab]
  by_cases h : (look s.entries i).state ≠ .free ∧ (look s.entries i).port = p
  · rw [if_pos (by simpa using h)]
    simp [h]
  · rw [if_neg (by simpa using h)]
    simp [h]

/-! ## fence -/

@[simp] theorem State.fence_clock (t : TP) : (s.fence t).clock = s.clock := by
  simp [State.fence]
@[simp] theorem State.fence_hub (t : TP) : (s.fence t).hub = s.hub := by
  simp [State.fence]
@[simp] theorem State.fence_active (t : TP) : (s.fence t).active = s.active := by
  simp [State.fence]
@[simp] theorem State.fence_version (t : TP) : (s.fence t).version = s.version := by
  simp [State.fence]
@[simp] theorem State.fence_claim (t : TP) : (s.fence t).claim = s.claim := by
  simp [State.fence]
@[simp] theorem State.fence_rights (t : TP) : (s.fence t).rights = s.rights := by
  simp [State.fence]
@[simp] theorem State.fence_rightsLock (t : TP) : (s.fence t).rightsLock = s.rightsLock := by
  simp [State.fence]
@[simp] theorem State.fence_leaseMs (t : TP) : (s.fence t).leaseMs = s.leaseMs := by
  simp [State.fence]
@[simp] theorem State.fence_lastGranted (t : TP) : (s.fence t).lastGranted = s.lastGranted := by
  simp [State.fence]
@[simp] theorem State.fence_classIntervals (t : TP) : (s.fence t).classIntervals = s.classIntervals := by
  simp [State.fence]
@[simp] theorem State.fence_reclaimMs (t : TP) : (s.fence t).reclaimMs = s.reclaimMs := by
  simp [State.fence]
@[simp] theorem State.fence_banks (t : TP) : (s.fence t).banks = s.banks := by
  simp [State.fence]
@[simp] theorem State.fence_sequence (t : TP) : (s.fence t).sequence = s.sequence := by
  simp [State.fence]
@[simp] theorem State.fence_freeCount (t : TP) : (s.fence t).freeCount = s.freeCount := by
  simp [State.fence]
@[simp] theorem State.fence_pending (t : TP) : (s.fence t).pending = s.pending := by
  simp [State.fence]

@[simp] theorem State.fence_bank (t : TP) (c : Bank) : (s.fence t).bank c = s.bank c := by simp [State.bank]

/-! ## fenceFor -/

@[simp] theorem State.fenceFor_clock (t : TP) (r : Report) : (s.fenceFor t r).clock = s.clock := by
  simp [State.fenceFor]
@[simp] theorem State.fenceFor_hub (t : TP) (r : Report) : (s.fenceFor t r).hub = s.hub := by
  simp [State.fenceFor]
@[simp] theorem State.fenceFor_active (t : TP) (r : Report) : (s.fenceFor t r).active = s.active := by
  simp [State.fenceFor]
@[simp] theorem State.fenceFor_version (t : TP) (r : Report) : (s.fenceFor t r).version = s.version := by
  simp [State.fenceFor]
@[simp] theorem State.fenceFor_claim (t : TP) (r : Report) : (s.fenceFor t r).claim = s.claim := by
  simp [State.fenceFor]
@[simp] theorem State.fenceFor_rights (t : TP) (r : Report) : (s.fenceFor t r).rights = s.rights := by
  simp [State.fenceFor]
@[simp] theorem State.fenceFor_rightsLock (t : TP) (r : Report) : (s.fenceFor t r).rightsLock = s.rightsLock := by
  simp [State.fenceFor]
@[simp] theorem State.fenceFor_leaseMs (t : TP) (r : Report) : (s.fenceFor t r).leaseMs = s.leaseMs := by
  simp [State.fenceFor]
@[simp] theorem State.fenceFor_lastGranted (t : TP) (r : Report) : (s.fenceFor t r).lastGranted = s.lastGranted := by
  simp [State.fenceFor]
@[simp] theorem State.fenceFor_classIntervals (t : TP) (r : Report) : (s.fenceFor t r).classIntervals = s.classIntervals := by
  simp [State.fenceFor]
@[simp] theorem State.fenceFor_reclaimMs (t : TP) (r : Report) : (s.fenceFor t r).reclaimMs = s.reclaimMs := by
  simp [State.fenceFor]
@[simp] theorem State.fenceFor_freeCount (t : TP) (r : Report) : (s.fenceFor t r).freeCount = s.freeCount := by
  simp [State.fenceFor]
@[simp] theorem State.fenceFor_pending (t : TP) (r : Report) : (s.fenceFor t r).pending = s.pending := by
  simp [State.fenceFor]

/-! ## contain -/

@[simp] theorem State.contain_clock (r : Report) : (s.contain r).clock = s.clock := by
  exact (foldl_raise_fence State.clock (fun _ _ _ => rfl) _ _ _).trans (by simp)
@[simp] theorem State.contain_active (r : Report) : (s.contain r).active = s.active := by
  exact (foldl_raise_fence State.active (fun _ _ _ => rfl) _ _ _).trans (by simp)
@[simp] theorem State.contain_version (r : Report) : (s.contain r).version = s.version := by
  exact (foldl_raise_fence State.version (fun _ _ _ => rfl) _ _ _).trans (by simp)
@[simp] theorem State.contain_claim (r : Report) : (s.contain r).claim = s.claim := by
  exact (foldl_raise_fence State.claim (fun _ _ _ => rfl) _ _ _).trans (by simp)
@[simp] theorem State.contain_rights (r : Report) : (s.contain r).rights = s.rights := by
  exact (foldl_raise_fence State.rights (fun _ _ _ => rfl) _ _ _).trans (by simp)
@[simp] theorem State.contain_rightsLock (r : Report) : (s.contain r).rightsLock = s.rightsLock := by
  exact (foldl_raise_fence State.rightsLock (fun _ _ _ => rfl) _ _ _).trans (by simp)
@[simp] theorem State.contain_leaseMs (r : Report) : (s.contain r).leaseMs = s.leaseMs := by
  exact (foldl_raise_fence State.leaseMs (fun _ _ _ => rfl) _ _ _).trans (by simp)
@[simp] theorem State.contain_lastGranted (r : Report) : (s.contain r).lastGranted = s.lastGranted := by
  exact (foldl_raise_fence State.lastGranted (fun _ _ _ => rfl) _ _ _).trans (by simp)
@[simp] theorem State.contain_classIntervals (r : Report) : (s.contain r).classIntervals = s.classIntervals := by
  exact (foldl_raise_fence State.classIntervals (fun _ _ _ => rfl) _ _ _).trans (by simp)
@[simp] theorem State.contain_reclaimMs (r : Report) : (s.contain r).reclaimMs = s.reclaimMs := by
  exact (foldl_raise_fence State.reclaimMs (fun _ _ _ => rfl) _ _ _).trans (by simp)
@[simp] theorem State.contain_freeCount (r : Report) : (s.contain r).freeCount = s.freeCount := by
  exact (foldl_raise_fence State.freeCount (fun _ _ _ => rfl) _ _ _).trans (by simp)
@[simp] theorem State.contain_pending (r : Report) : (s.contain r).pending = s.pending := by
  exact (foldl_raise_fence State.pending (fun _ _ _ => rfl) _ _ _).trans (by simp)

@[simp] theorem State.contain_hub (r : Report) : (s.contain r).hub = .contained := by
  exact (foldl_raise_fence State.hub (fun _ _ _ => rfl) _ _ _).trans (by simp)

/-! ## storageCheck -/

@[simp] theorem State.storageCheck_clock (r : Report) : (s.storageCheck r).clock = s.clock := by
  cases h : s.hub <;> simp [State.storageCheck, h]
@[simp] theorem State.storageCheck_active (r : Report) : (s.storageCheck r).active = s.active := by
  cases h : s.hub <;> simp [State.storageCheck, h]
@[simp] theorem State.storageCheck_version (r : Report) : (s.storageCheck r).version = s.version := by
  cases h : s.hub <;> simp [State.storageCheck, h]
@[simp] theorem State.storageCheck_claim (r : Report) : (s.storageCheck r).claim = s.claim := by
  cases h : s.hub <;> simp [State.storageCheck, h]
@[simp] theorem State.storageCheck_rights (r : Report) : (s.storageCheck r).rights = s.rights := by
  cases h : s.hub <;> simp [State.storageCheck, h]
@[simp] theorem State.storageCheck_rightsLock (r : Report) : (s.storageCheck r).rightsLock = s.rightsLock := by
  cases h : s.hub <;> simp [State.storageCheck, h]
@[simp] theorem State.storageCheck_leaseMs (r : Report) : (s.storageCheck r).leaseMs = s.leaseMs := by
  cases h : s.hub <;> simp [State.storageCheck, h]
@[simp] theorem State.storageCheck_lastGranted (r : Report) : (s.storageCheck r).lastGranted = s.lastGranted := by
  cases h : s.hub <;> simp [State.storageCheck, h]
@[simp] theorem State.storageCheck_classIntervals (r : Report) : (s.storageCheck r).classIntervals = s.classIntervals := by
  cases h : s.hub <;> simp [State.storageCheck, h]
@[simp] theorem State.storageCheck_reclaimMs (r : Report) : (s.storageCheck r).reclaimMs = s.reclaimMs := by
  cases h : s.hub <;> simp [State.storageCheck, h]
@[simp] theorem State.storageCheck_freeCount (r : Report) : (s.storageCheck r).freeCount = s.freeCount := by
  cases h : s.hub <;> simp [State.storageCheck, h]
@[simp] theorem State.storageCheck_pending (r : Report) : (s.storageCheck r).pending = s.pending := by
  cases h : s.hub <;> simp [State.storageCheck, h]

@[simp] theorem State.storageCheck_hub (r : Report) : (s.storageCheck r).hub = .contained := by
  cases h : s.hub <;> simp [State.storageCheck, h]

/-! ## discardPort -/

/-- Everything the discarding of a port's work does: the entries are marked, the port's unit is emptied, all else stays. -/
theorem State.discardPort_eq (p : RP) :
    s.discardPort p = { s.setPort p (s.port p).emptied with entries := (s.markLost p).entries } := rfl

@[simp] theorem State.discardPort_clock (p : RP) : (s.discardPort p).clock = s.clock := by simp [State.discardPort]
@[simp] theorem State.discardPort_hub (p : RP) : (s.discardPort p).hub = s.hub := by simp [State.discardPort]
@[simp] theorem State.discardPort_active (p : RP) : (s.discardPort p).active = s.active := by simp [State.discardPort]
@[simp] theorem State.discardPort_version (p : RP) : (s.discardPort p).version = s.version := by simp [State.discardPort]
@[simp] theorem State.discardPort_claim (p : RP) : (s.discardPort p).claim = s.claim := by simp [State.discardPort]
@[simp] theorem State.discardPort_rights (p : RP) : (s.discardPort p).rights = s.rights := by simp [State.discardPort]
@[simp] theorem State.discardPort_rightsLock (p : RP) : (s.discardPort p).rightsLock = s.rightsLock := by simp [State.discardPort]
@[simp] theorem State.discardPort_leaseMs (p : RP) : (s.discardPort p).leaseMs = s.leaseMs := by simp [State.discardPort]
@[simp] theorem State.discardPort_lastGranted (p : RP) : (s.discardPort p).lastGranted = s.lastGranted := by simp [State.discardPort]
@[simp] theorem State.discardPort_classIntervals (p : RP) : (s.discardPort p).classIntervals = s.classIntervals := by simp [State.discardPort]
@[simp] theorem State.discardPort_reclaimMs (p : RP) : (s.discardPort p).reclaimMs = s.reclaimMs := by simp [State.discardPort]
@[simp] theorem State.discardPort_targets (p : RP) : (s.discardPort p).targets = s.targets := by simp [State.discardPort]
@[simp] theorem State.discardPort_links (p : RP) : (s.discardPort p).links = s.links := by simp [State.discardPort]
@[simp] theorem State.discardPort_banks (p : RP) : (s.discardPort p).banks = s.banks := by simp [State.discardPort]
@[simp] theorem State.discardPort_sequence (p : RP) : (s.discardPort p).sequence = s.sequence := by simp [State.discardPort]
@[simp] theorem State.discardPort_freeCount (p : RP) : (s.discardPort p).freeCount = s.freeCount := by simp [State.discardPort]
@[simp] theorem State.discardPort_pending (p : RP) : (s.discardPort p).pending = s.pending := by simp [State.discardPort]

@[simp] theorem State.discardPort_target (p : RP) (u : TP) : (s.discardPort p).target u = s.target u := by
  simp [State.discardPort]
@[simp] theorem State.discardPort_link (p : RP) (m : LinkId) : (s.discardPort p).link m = s.link m := by
  simp [State.discardPort]
@[simp] theorem State.discardPort_bank (p : RP) (c : Bank) : (s.discardPort p).bank c = s.bank c := by
  simp [State.discardPort]

theorem State.discardPort_port (p q : RP) :
    (s.discardPort p).port q = if p = q then (s.port p).emptied else s.port q := by
  simp [State.discardPort, State.port_setPort]

@[simp] theorem State.discardPort_entry (p : RP) (i : Fin 32) :
    (s.discardPort p).entry i =
      { s.entry i with lost := (s.entry i).lost || decide ((s.entry i).state ≠ .free ∧ (s.entry i).port = p) } := by
  rw [State.discardPort, State.markLost_entry, State.setPort_entry]

/-! ## requesterLoss -/

@[simp] theorem State.requesterLoss_clock (p : RP) : (s.requesterLoss p).clock = s.clock := by
  simp only [State.requesterLoss]; split <;> simp
@[simp] theorem State.requesterLoss_hub (p : RP) : (s.requesterLoss p).hub = s.hub := by
  simp only [State.requesterLoss]; split <;> simp
@[simp] theorem State.requesterLoss_active (p : RP) : (s.requesterLoss p).active = s.active := by
  simp only [State.requesterLoss]; split <;> simp
@[simp] theorem State.requesterLoss_version (p : RP) : (s.requesterLoss p).version = s.version := by
  simp only [State.requesterLoss]; split <;> simp
@[simp] theorem State.requesterLoss_rights (p : RP) : (s.requesterLoss p).rights = s.rights := by
  simp only [State.requesterLoss]; split <;> simp
@[simp] theorem State.requesterLoss_rightsLock (p : RP) : (s.requesterLoss p).rightsLock = s.rightsLock := by
  simp only [State.requesterLoss]; split <;> simp
@[simp] theorem State.requesterLoss_leaseMs (p : RP) : (s.requesterLoss p).leaseMs = s.leaseMs := by
  simp only [State.requesterLoss]; split <;> simp
@[simp] theorem State.requesterLoss_lastGranted (p : RP) : (s.requesterLoss p).lastGranted = s.lastGranted := by
  simp only [State.requesterLoss]; split <;> simp
@[simp] theorem State.requesterLoss_classIntervals (p : RP) : (s.requesterLoss p).classIntervals = s.classIntervals := by
  simp only [State.requesterLoss]; split <;> simp
@[simp] theorem State.requesterLoss_reclaimMs (p : RP) : (s.requesterLoss p).reclaimMs = s.reclaimMs := by
  simp only [State.requesterLoss]; split <;> simp
@[simp] theorem State.requesterLoss_targets (p : RP) : (s.requesterLoss p).targets = s.targets := by
  simp only [State.requesterLoss]; split <;> simp
@[simp] theorem State.requesterLoss_links (p : RP) : (s.requesterLoss p).links = s.links := by
  simp only [State.requesterLoss]; split <;> simp
@[simp] theorem State.requesterLoss_freeCount (p : RP) : (s.requesterLoss p).freeCount = s.freeCount := by
  simp only [State.requesterLoss]; split <;> simp
@[simp] theorem State.requesterLoss_pending (p : RP) : (s.requesterLoss p).pending = s.pending := by
  simp only [State.requesterLoss]; split <;> simp

@[simp] theorem State.requesterLoss_target (p : RP) (u : TP) : (s.requesterLoss p).target u = s.target u := by
  simp [State.target]
@[simp] theorem State.requesterLoss_link (p : RP) (m : LinkId) : (s.requesterLoss p).link m = s.link m := by
  simp [State.link]

/-! ## targetLoss -/

@[simp] theorem State.targetLoss_clock (t : TP) : (s.targetLoss t).clock = s.clock := by
  cases h : (s.target t).state <;> simp [State.targetLoss, h]
@[simp] theorem State.targetLoss_hub (t : TP) : (s.targetLoss t).hub = s.hub := by
  cases h : (s.target t).state <;> simp [State.targetLoss, h]
@[simp] theorem State.targetLoss_active (t : TP) : (s.targetLoss t).active = s.active := by
  cases h : (s.target t).state <;> simp [State.targetLoss, h]
@[simp] theorem State.targetLoss_version (t : TP) : (s.targetLoss t).version = s.version := by
  cases h : (s.target t).state <;> simp [State.targetLoss, h]
@[simp] theorem State.targetLoss_claim (t : TP) : (s.targetLoss t).claim = s.claim := by
  cases h : (s.target t).state <;> simp [State.targetLoss, h]
@[simp] theorem State.targetLoss_rights (t : TP) : (s.targetLoss t).rights = s.rights := by
  cases h : (s.target t).state <;> simp [State.targetLoss, h]
@[simp] theorem State.targetLoss_rightsLock (t : TP) : (s.targetLoss t).rightsLock = s.rightsLock := by
  cases h : (s.target t).state <;> simp [State.targetLoss, h]
@[simp] theorem State.targetLoss_leaseMs (t : TP) : (s.targetLoss t).leaseMs = s.leaseMs := by
  cases h : (s.target t).state <;> simp [State.targetLoss, h]
@[simp] theorem State.targetLoss_lastGranted (t : TP) : (s.targetLoss t).lastGranted = s.lastGranted := by
  cases h : (s.target t).state <;> simp [State.targetLoss, h]
@[simp] theorem State.targetLoss_classIntervals (t : TP) : (s.targetLoss t).classIntervals = s.classIntervals := by
  cases h : (s.target t).state <;> simp [State.targetLoss, h]
@[simp] theorem State.targetLoss_reclaimMs (t : TP) : (s.targetLoss t).reclaimMs = s.reclaimMs := by
  cases h : (s.target t).state <;> simp [State.targetLoss, h]
@[simp] theorem State.targetLoss_freeCount (t : TP) : (s.targetLoss t).freeCount = s.freeCount := by
  cases h : (s.target t).state <;> simp [State.targetLoss, h]
@[simp] theorem State.targetLoss_pending (t : TP) : (s.targetLoss t).pending = s.pending := by
  cases h : (s.target t).state <;> simp [State.targetLoss, h]

/-! ## takeLoss -/

@[simp] theorem State.takeLoss_clock (l : LinkId) : (s.takeLoss l).clock = s.clock := by
  cases l <;> simp [State.takeLoss]
@[simp] theorem State.takeLoss_hub (l : LinkId) : (s.takeLoss l).hub = s.hub := by
  cases l <;> simp [State.takeLoss]
@[simp] theorem State.takeLoss_active (l : LinkId) : (s.takeLoss l).active = s.active := by
  cases l <;> simp [State.takeLoss]
@[simp] theorem State.takeLoss_version (l : LinkId) : (s.takeLoss l).version = s.version := by
  cases l <;> simp [State.takeLoss]
@[simp] theorem State.takeLoss_rights (l : LinkId) : (s.takeLoss l).rights = s.rights := by
  cases l <;> simp [State.takeLoss]
@[simp] theorem State.takeLoss_rightsLock (l : LinkId) : (s.takeLoss l).rightsLock = s.rightsLock := by
  cases l <;> simp [State.takeLoss]
@[simp] theorem State.takeLoss_leaseMs (l : LinkId) : (s.takeLoss l).leaseMs = s.leaseMs := by
  cases l <;> simp [State.takeLoss]
@[simp] theorem State.takeLoss_lastGranted (l : LinkId) : (s.takeLoss l).lastGranted = s.lastGranted := by
  cases l <;> simp [State.takeLoss]
@[simp] theorem State.takeLoss_classIntervals (l : LinkId) : (s.takeLoss l).classIntervals = s.classIntervals := by
  cases l <;> simp [State.takeLoss]
@[simp] theorem State.takeLoss_reclaimMs (l : LinkId) : (s.takeLoss l).reclaimMs = s.reclaimMs := by
  cases l <;> simp [State.takeLoss]
@[simp] theorem State.takeLoss_freeCount (l : LinkId) : (s.takeLoss l).freeCount = s.freeCount := by
  cases l <;> simp [State.takeLoss]
@[simp] theorem State.takeLoss_pending (l : LinkId) : (s.takeLoss l).pending = s.pending := by
  cases l <;> simp [State.takeLoss]

/-! ## loseLink -/

@[simp] theorem State.loseLink_clock (l : LinkId) : (s.loseLink l).clock = s.clock := by
  simp [State.loseLink]
@[simp] theorem State.loseLink_hub (l : LinkId) : (s.loseLink l).hub = s.hub := by
  simp [State.loseLink]
@[simp] theorem State.loseLink_active (l : LinkId) : (s.loseLink l).active = s.active := by
  simp [State.loseLink]
@[simp] theorem State.loseLink_version (l : LinkId) : (s.loseLink l).version = s.version := by
  simp [State.loseLink]
@[simp] theorem State.loseLink_rights (l : LinkId) : (s.loseLink l).rights = s.rights := by
  simp [State.loseLink]
@[simp] theorem State.loseLink_rightsLock (l : LinkId) : (s.loseLink l).rightsLock = s.rightsLock := by
  simp [State.loseLink]
@[simp] theorem State.loseLink_leaseMs (l : LinkId) : (s.loseLink l).leaseMs = s.leaseMs := by
  simp [State.loseLink]
@[simp] theorem State.loseLink_lastGranted (l : LinkId) : (s.loseLink l).lastGranted = s.lastGranted := by
  simp [State.loseLink]
@[simp] theorem State.loseLink_classIntervals (l : LinkId) : (s.loseLink l).classIntervals = s.classIntervals := by
  simp [State.loseLink]
@[simp] theorem State.loseLink_reclaimMs (l : LinkId) : (s.loseLink l).reclaimMs = s.reclaimMs := by
  simp [State.loseLink]
@[simp] theorem State.loseLink_freeCount (l : LinkId) : (s.loseLink l).freeCount = s.freeCount := by
  simp [State.loseLink]
@[simp] theorem State.loseLink_pending (l : LinkId) : (s.loseLink l).pending = s.pending := by
  simp [State.loseLink]

/-! ## resetByPartner -/

@[simp] theorem State.resetByPartner_clock (l : LinkId) : (s.resetByPartner l).clock = s.clock := by
  simp [State.resetByPartner]
@[simp] theorem State.resetByPartner_hub (l : LinkId) : (s.resetByPartner l).hub = s.hub := by
  simp [State.resetByPartner]
@[simp] theorem State.resetByPartner_active (l : LinkId) : (s.resetByPartner l).active = s.active := by
  simp [State.resetByPartner]
@[simp] theorem State.resetByPartner_version (l : LinkId) : (s.resetByPartner l).version = s.version := by
  simp [State.resetByPartner]
@[simp] theorem State.resetByPartner_rights (l : LinkId) : (s.resetByPartner l).rights = s.rights := by
  simp [State.resetByPartner]
@[simp] theorem State.resetByPartner_rightsLock (l : LinkId) : (s.resetByPartner l).rightsLock = s.rightsLock := by
  simp [State.resetByPartner]
@[simp] theorem State.resetByPartner_leaseMs (l : LinkId) : (s.resetByPartner l).leaseMs = s.leaseMs := by
  simp [State.resetByPartner]
@[simp] theorem State.resetByPartner_lastGranted (l : LinkId) : (s.resetByPartner l).lastGranted = s.lastGranted := by
  simp [State.resetByPartner]
@[simp] theorem State.resetByPartner_classIntervals (l : LinkId) : (s.resetByPartner l).classIntervals = s.classIntervals := by
  simp [State.resetByPartner]
@[simp] theorem State.resetByPartner_reclaimMs (l : LinkId) : (s.resetByPartner l).reclaimMs = s.reclaimMs := by
  simp [State.resetByPartner]
@[simp] theorem State.resetByPartner_freeCount (l : LinkId) : (s.resetByPartner l).freeCount = s.freeCount := by
  simp [State.resetByPartner]
@[simp] theorem State.resetByPartner_pending (l : LinkId) : (s.resetByPartner l).pending = s.pending := by
  simp [State.resetByPartner]

end Sys2Proof.Machine
end

