-- ==== Sys2Proof/Laws/Serve.lean ====
section
/-! SUPPORT. What the answers at an ingress head and the serving of a CONFIG request can do, said once, and the record
numbers and command codes that the rows are served by. -/

namespace Sys2Proof.Machine

variable {s : State}

/-! ## Members of a range -/

theorem finOf_eq_some {n k : Nat} {g : Fin n} : finOf n k = some g ↔ k = g.val := by
  unfold finOf
  split
  · simp [Fin.ext_iff]
  · have := g.isLt; simp; omega

theorem finOf_eq_none {n k : Nat} : finOf n k = none ↔ n ≤ k := by
  unfold finOf
  split <;> simp <;> omega

@[simp] theorem finOf_val {n : Nat} (g : Fin n) : finOf n g.val = some g := finOf_eq_some.2 rfl

/-! ## Heads -/

theorem State.room_iff (p : RP) : s.room p = true ↔ s.hasRoom p := decide_eq_true_iff

@[simp] theorem hubData_eq (kind : MemKind) (n : Nat) : hubData kind n = allOnes kind n := by
  cases kind <;> simp [hubData, allOnes, ones]

theorem State.leaveHead_eq (p : RP) : s.leaveHead p = s.discarded p := by
  simp [State.leaveHead, State.discarded, RequesterPort.withoutHead]

theorem State.answerHead_eq (p : RP) (a : Answer) : s.answerHead p a = s.answered p a.tag a.status a.data := by
  simp [State.answerHead, State.place, State.leaveHead, State.answered, RequesterPort.withoutHead]

theorem finishWrite_eq (p : RP) (tag : Tag) (r : State × Status) : finishWrite p tag r = r.1.answered p tag r.2 [] := by
  simp [finishWrite, State.answerHead_eq]

theorem finishRead_ok (p : RP) (tag : Tag) (v : State) (data : List Byte) :
    finishRead p tag (v, .ok, data) = v.readAnswered p tag .ok data := by
  simp [finishRead, State.answerHead_eq, State.readAnswered]

theorem finishRead_refused (p : RP) (tag : Tag) (v : State) (status : Status) (data : List Byte) (h : status ≠ .ok) :
    finishRead p tag (v, status, data) = v.readAnswered p tag status (ones 8) := by
  simp [finishRead, State.answerHead_eq, State.readAnswered, h]

/-! ## Serving -/

theorem State.writeHead_eq {p : RP} {tag : Tag} {number : BitVec 16} {data : List Byte}
    (h : s.servesWrite p tag number data) : s.writeHead p = some (tag, number, data) := by
  simp [State.writeHead, h.1, (State.room_iff p).2 h.2]

theorem State.readHead_eq {p : RP} {tag : Tag} {number : BitVec 16} (h : s.servesRead p tag number) :
    s.readHead p = some (tag, number) := by
  simp [State.readHead, h.1, (State.room_iff p).2 h.2]

theorem State.writeHead_of_read {p : RP} {tag : Tag} {number : BitVec 16} (h : s.servesRead p tag number) :
    s.writeHead p = none := by
  simp [State.writeHead, h.1]

/-- A row that serves a CONFIG WRITE answers it with the status its effect gives. -/
theorem State.serveWrite_eq {p : RP} {tag : Tag} {number : BitVec 16} {data : List Byte} {r : RecordId}
    {x : State × Status} {run : Tag → RecordId → List Byte → Option (State × Status)}
    (h : s.servesWrite p tag number data) (hr : recordOf number = some r) (hx : run tag r data = some x) :
    s.serveWrite p run = x.1.answered p tag x.2 [] := by
  simp [State.serveWrite, State.writeHead_eq h, hr, hx, finishWrite_eq]

/-- A row that serves a command answers it with the status its effect gives. -/
theorem State.serveCommand_eq {p : RP} {tag : Tag} {code : Byte} {data : List Byte} {c : Command}
    {run : Tag → List Byte → State × Status} (h : s.servesCommand p tag code data) (hc : Command.ofByte code = some c) :
    s.serveCommand p c run = (run tag data).1.answered p tag (run tag data).2 [] := by
  have hr : recordOf 0x0008 = some .command := by decide
  exact State.serveWrite_eq h.1 hr (by simp [h.2, hc])

/-- A row that serves a CONFIG READ answers it with the status and the bytes its effect gives. -/
theorem State.serveRead_eq {p : RP} {tag : Tag} {number : BitVec 16} {r : RecordId} {x : State × Status × List Byte}
    {run : Tag → RecordId → Option (State × Status × List Byte)}
    (h : s.servesRead p tag number) (hr : recordOf number = some r) (hx : run tag r = some x) :
    s.serveRead p run = finishRead p tag x := by
  simp [State.serveRead, State.readHead_eq h, hr, hx]

/-- Everything the serving of a CONFIG WRITE can do. -/
theorem State.serveWrite_cases (p : RP) (run : Tag → RecordId → List Byte → Option (State × Status)) :
    s.serveWrite p run = s ∨
      ∃ tag number data r x, s.servesWrite p tag number data ∧ recordOf number = some r ∧ run tag r data = some x ∧
        s.serveWrite p run = x.1.answered p tag x.2 [] := by
  unfold State.serveWrite
  cases h : s.writeHead p with
  | none => exact .inl rfl
  | some y =>
    obtain ⟨tag, number, data⟩ := y
    cases hr : recordOf number with
    | none => exact .inl (by simp [hr])
    | some r =>
      cases hx : run tag r data with
      | none => exact .inl (by simp [hr, hx])
      | some x =>
        refine .inr ⟨tag, number, data, r, x, ?_, hr, hx, by simp [hr, hx, finishWrite_eq]⟩
        unfold State.writeHead at h
        split at h
        · split at h
          · rename_i hh hroom
            simp only [Option.some.injEq, Prod.mk.injEq] at h
            obtain ⟨rfl, rfl, rfl⟩ := h
            exact ⟨hh, (State.room_iff p).1 hroom⟩
          · cases h
        · cases h

/-- Everything the serving of a CONFIG READ can do. -/
theorem State.serveRead_cases (p : RP) (run : Tag → RecordId → Option (State × Status × List Byte)) :
    s.serveRead p run = s ∨
      ∃ tag number r x, s.servesRead p tag number ∧ recordOf number = some r ∧ run tag r = some x ∧
        s.serveRead p run = finishRead p tag x := by
  unfold State.serveRead
  cases h : s.readHead p with
  | none => exact .inl rfl
  | some y =>
    obtain ⟨tag, number⟩ := y
    cases hr : recordOf number with
    | none => exact .inl (by simp [hr])
    | some r =>
      cases hx : run tag r with
      | none => exact .inl (by simp [hr, hx])
      | some x =>
        refine .inr ⟨tag, number, r, x, ?_, hr, hx, by simp [hr, hx]⟩
        unfold State.readHead at h
        split at h
        · split at h
          · rename_i hh hroom
            simp only [Option.some.injEq, Prod.mk.injEq] at h
            obtain ⟨rfl, rfl⟩ := h
            exact ⟨hh, (State.room_iff p).1 hroom⟩
          · cases h
        · cases h

/-! ## The claim, and the checks in their order -/

theorem State.claimOf_eq {p : RP} {c : Claim} (hc : s.claim = some c) (hp : c.holder = p) : s.claimOf p = some c := by
  simp [State.claimOf, hc, hp]

theorem State.claimOf_eq_none {p : RP} (h : ∀ c, s.claim = some c → c.holder ≠ p) : s.claimOf p = none := by
  simpa [State.claimOf, Option.filter_eq_none_iff] using h

theorem State.whenHolder_eq {p : RP} {c : Claim} {run : Claim → State × Status} (hc : s.claim = some c)
    (hp : c.holder = p) : s.whenHolder p run = run c := by
  simp [State.whenHolder, State.claimOf_eq hc hp]

theorem State.whenHolder_busy {p : RP} {run : Claim → State × Status} (h : ∀ c, s.claim = some c → c.holder ≠ p) :
    s.whenHolder p run = (s, .busy) := by
  simp [State.whenHolder, State.claimOf_eq_none h]

theorem State.whenNormal_eq {r : State × Status} (h : s.hub = .normal) : s.whenNormal r = r := by
  simp [State.whenNormal, h]

theorem State.whenNormal_contained {r : State × Status} (h : s.hub = .contained) : s.whenNormal r = (s, .hubFault) := by
  simp [State.whenNormal, h]

theorem State.whenRight_eq {p : RP} {right : Rights → Bool} {r : State × Status} (h : right (s.rightsOf p) = true) :
    s.whenRight p right r = r := by
  simp [State.whenRight, h]

theorem State.whenRight_denied {p : RP} {right : Rights → Bool} {r : State × Status} (h : right (s.rightsOf p) = false) :
    s.whenRight p right r = (s, .denied) := by
  simp [State.whenRight, h]

theorem State.settingsWrite_eq {α : Type} {p : RP} {operand : Option α} {store : α → State} {a : α}
    (hn : s.hub = .normal) (hr : (s.rightsOf p).configure = true) (ha : operand = some a) :
    s.settingsWrite p operand store = (store a, .ok) := by
  rw [State.settingsWrite, State.whenNormal_eq hn, State.whenRight_eq hr, ha, State.whenValid]

theorem State.settingsWrite_invalid {α : Type} {p : RP} {operand : Option α} {store : α → State}
    (hn : s.hub = .normal) (hr : (s.rightsOf p).configure = true) (ha : operand = none) :
    s.settingsWrite p operand store = (s, .invalid) := by
  rw [State.settingsWrite, State.whenNormal_eq hn, State.whenRight_eq hr, ha, State.whenValid]

/-! ## Record numbers (R166) -/

theorem recordOf_port (q : RP) : recordOf (BitVec.ofNat 16 (0x0010 + q.val)) = some (.port q) := by revert q; decide
theorem recordOf_rights (q : RP) : recordOf (BitVec.ofNat 16 (0x0018 + q.val)) = some (.rights q) := by revert q; decide
theorem recordOf_classInterval (c : Fin 4) : recordOf (BitVec.ofNat 16 (0x0020 + c.val)) = some (.classInterval c) := by
  revert c; decide
theorem recordOf_target (t : TP) : recordOf (BitVec.ofNat 16 (0x0030 + t.val)) = some (.target t) := by revert t; decide
theorem recordOf_activeRange (w : Fin 16) : recordOf (BitVec.ofNat 16 (0x0200 + 2 * w.val)) = some (.activeRange w) := by
  revert w; decide
theorem recordOf_activeRouting (w : Fin 16) :
    recordOf (BitVec.ofNat 16 (0x0200 + 2 * w.val + 1)) = some (.activeRouting w) := by
  revert w; decide
theorem recordOf_shadowRange (w : Fin 16) : recordOf (BitVec.ofNat 16 (0x0300 + 2 * w.val)) = some (.shadowRange w) := by
  revert w; decide
theorem recordOf_shadowRouting (w : Fin 16) :
    recordOf (BitVec.ofNat 16 (0x0300 + 2 * w.val + 1)) = some (.shadowRouting w) := by
  revert w; decide

/-- The records of bank `b` stand at 0100h + 8 × its number (R166). -/
theorem recordOf_bank (b : Bank) (k : Fin 8) :
    recordOf (BitVec.ofNat 16 (0x0100 + 8 * b.idx.val + k.val)) = bankRecord b k.val := by
  cases b with
  | req p => revert p k; decide
  | tgt t => revert t k; decide
  | hub => revert k; decide

/-- A choice that gives `z`, and not by its first branch, gives it by its second. -/
theorem eq_some_of_ite {α : Type} {c : Prop} [Decidable c] {x y : Option α} {z : α}
    (h : (if c then x else y) = some z) (hx : x ≠ some z) : ¬c ∧ y = some z := by
  by_cases hc : c
  · rw [if_pos hc] at h; exact absurd h hx
  · rw [if_neg hc] at h; exact ⟨hc, h⟩

theorem map_ne_some {α β : Type} {f : α → β} {o : Option α} {z : β} (h : ∀ a, f a ≠ z) : o.map f ≠ some z := by
  cases o with
  | none => simp
  | some a => simpa using h a

theorem bind_ne_some {α β : Type} {f : α → Option β} {o : Option α} {z : β} (h : ∀ a, f a ≠ some z) :
    o.bind f ≠ some z := by
  cases o with
  | none => simp
  | some a => simpa using h a

/-- The command record is 0008h and no other (R166). -/
theorem recordOf_command {n : BitVec 16} : recordOf n = some .command ↔ n = 0x0008 := by
  constructor
  · intro hr
    apply BitVec.eq_of_toNat_eq
    show n.toNat = 8
    by_contra hc
    have ne : ∀ r, r ≠ RecordId.command → some r ≠ some RecordId.command := fun r h h' => h (Option.some.inj h')
    have hb : ∀ b k, bankRecord b k ≠ some .command := by intro b k; unfold bankRecord; split <;> simp
    unfold recordOf at hr
    have h := (eq_some_of_ite hr (ne _ nofun)).2
    have h := (eq_some_of_ite h (ne _ nofun)).2
    have h := (eq_some_of_ite h (ne _ nofun)).2
    have h := (eq_some_of_ite h (ne _ nofun)).2
    have h := (eq_some_of_ite h (ne _ nofun)).2
    rw [if_neg hc] at h
    have h := (eq_some_of_ite h (map_ne_some nofun)).2
    have h := (eq_some_of_ite h (map_ne_some nofun)).2
    have h := (eq_some_of_ite h (map_ne_some nofun)).2
    have h := (eq_some_of_ite h (ne _ nofun)).2
    have h := (eq_some_of_ite h (ne _ nofun)).2
    have h := (eq_some_of_ite h (map_ne_some nofun)).2
    have h := (eq_some_of_ite h (bind_ne_some fun b => hb b _)).2
    have h := (eq_some_of_ite h (map_ne_some fun w => by split <;> nofun)).2
    have h := (eq_some_of_ite h (ne _ nofun)).2
    have h := (eq_some_of_ite h (map_ne_some fun w => by split <;> nofun)).2
    have h := (eq_some_of_ite h (ne _ nofun)).2
    cases h
  · rintro rfl; decide

@[simp] theorem Bank.ofCode_idx (b : Bank) : Bank.ofCode b.idx.val = some b := by
  cases b with
  | req p => revert p; decide
  | tgt t => revert t; decide
  | hub => decide

theorem Bank.ofCode_eq_none {n : Nat} : Bank.ofCode n = none ↔ 10 < n := by
  simp only [Bank.ofCode, Option.map_eq_none_iff, finOf_eq_none]
  omega

end Sys2Proof.Machine
end

