-- ==== Sys2Proof/Tests/Slice0.lean ====
section
/-! SUPPORT. The tests: ill-formed commands refused, one witness per statement that has hypotheses (a concrete state and
operands for each of its clauses, at the boundary of a range where it has one), and the worked examples of the spec. -/

namespace Sys2Proof.Tests

open Sys2Proof.Machine

/-! ## Small states -/

/-- The state after a command; a command that stops leaves the state. -/
def after (c : Instr) (s : State) : State :=
  match exec c s with
  | .next t => t
  | _ => s

/-- The state after some commands, first to last. -/
def run (cs : List Instr) (s : State) : State := cs.foldl (fun x c => after c x) s

/-- A link that is UP with its partner confirmed. -/
def upLink : Link :=
  { Link.reset with state := .up, ownAcked := true, confirmed := true, resetPending := false, silence := some 1000 }

/-- An OPEN target that advertised 2 credits and holds them. -/
def openTarget : TargetPort := { TargetPort.reset with state := .opened, credits := 2, advertisement := 2 }

/-- A window of both directions. -/
def window (base limit : BitVec 28) (read write : Option TP) (readRights writeRights : BitVec 4) (atomic : Bool)
    (cls : Fin 4) : Window :=
  { valid := true, base, limit, readTarget := read, writeTarget := write, readRights, writeRights, atomic, cls,
    parity := true }

/-- The active table of section 1.5. -/
def table : Table :=
  { windows := #v[
      window 0x3FF00 0x3FFFF (some 0) (some 0) 0xF 0x8 false 0, window 0x00000 0x3FFFF (some 0) (some 0) 0xF 0xF true 0,
      window 0x40000 0x7FFFF (some 1) (some 1) 0xF 0xF true 0, window 0x80000 0x80FFF (some 2) none 0xF 0x8 false 2,
      window 0x81000 0x8100F (some 3) (some 3) 0x9 0x9 true 1, window 0x82000 0x82000 (some 4) (some 4) 0x8 0x8 false 3,
      Window.reset, Window.reset, Window.reset, Window.reset, Window.reset, Window.reset, Window.reset, Window.reset,
      Window.reset, Window.reset]
    route := { ceiling := 0x84000, target := some 4, parity := true } }

/-- The table of section 1.5 with a failing parity check of its default route and of window 15. -/
def damagedTable : Table :=
  { windows := upd table.windows 15 { Window.reset with parity := false }
    route := { table.route with parity := false } }

/-- Every link UP at time 1000, TP0 to TP3 and TP5 OPEN, TP4 FENCED, and the table of section 1.5 at version 1. -/
def live : State :=
  { State.reset with
    clock := 1000
    active := table
    version := 1
    links := Vector.replicate 10 upLink
    targets := upd (Vector.replicate 6 openTarget) 4 { openTarget with state := .fenced, credits := 0 } }

/-- One item at the head of the ingress queue of a port. -/
def withHead (s : State) (p : RP) (x : Item) : State :=
  s.setPort p { s.port p with ingress := [x], reckoning := 7, offerDue := true }

/-- A response queue without room. -/
def fullOf (s : State) (p : RP) : State :=
  s.setPort p { s.port p with responses := List.replicate 40 { tag := 0, status := .ok, data := [] } }

/-- A CONFIG WRITE at the head of RP0, tag 9. -/
def writing (s : State) (number : BitVec 16) (data : List Byte) : State := withHead s 0 (.configWrite 9 number data)

/-- A CONFIG READ at the head of RP0, tag 9. -/
def reading (s : State) (number : BitVec 16) : State := withHead s 0 (.configRead 9 number)

/-- An entry of RP1, tag 5, in use for a READ of 4 bytes at TP1. -/
def inUse (state : EntryState) (deadline : Option Nat) : Entry :=
  { state, port := 1, tag := 5, kind := .read, target := some 1, generation := 3, address := 0x40000000, length := 4,
    cls := 0, lost := false, deadline, parity := true }

/-- The state with entry 31 in use. -/
def using31 (state : EntryState) (deadline : Option Nat) : State := live.setEntry 31 (inUse state deadline)

/-- RP0 holds the claim, with the table of section 1.5 as its shadow. -/
def claimed : State := { live with claim := some { holder := 0, deadline := 1000, shadow := table } }

/-- A port's rights without any. -/
def noRights : State :=
  { live with rights := Vector.replicate 4 { configure := false, handle := false, test := false } }

/-- The hub CONTAINED, with every target FENCED. -/
def contained : State :=
  { live with hub := .contained, targets := Vector.replicate 6 { openTarget with state := .fenced, credits := 0 } }

/-- A record of a severity. -/
def record (sequence : BitVec 16) (kind : Kind) (severity : Severity) : Rec :=
  { sequence, kind, severity, injected := false, stamp := 0, port := none, tag := none, target := none, entry := none,
    address := none, version := none, detail := none }

/-- A state with the given records in bank TGT3. -/
def banked (rs : List Rec) : State := live.setBank (.tgt 3) { live.bank (.tgt 3) with records := rs }

/-- A READ of 4 bytes by its address. -/
def read4 (address : Address) : Item := .mem .read 7 address 4 []

/-! ## Commands that no frame carries -/

theorem test_wellFormed_refuses_request_data :
    (Instr.requestArrival 0 { kind := 2, tag := 0, address := 0, length := 64, data := List.replicate 67 0 }).wellFormed =
      false ∧
    (Instr.requestArrival 0 { kind := 2, tag := 0, address := 0, length := 64, data := List.replicate 66 0 }).wellFormed =
      true := by
  decide

theorem test_wellFormed_refuses_response_data :
    (Instr.responseIntake 0 { index := 0, generation := 0, status := 0, credit := 0, data := List.replicate 71 0 }).wellFormed
      = false ∧
    (Instr.responseIntake 0 { index := 0, generation := 0, status := 0, credit := 0, data := List.replicate 70 0 }).wellFormed
      = true := by
  decide

theorem test_wellFormed_refuses_payload (payload : List Byte) (h : payload.length = 256) :
    (Instr.packetFrameReceived (.rp 0) 0 .request payload).wellFormed = false := by
  simp [Instr.wellFormed, payloadWellFormed, h]

theorem witness_test_wellFormed_refuses_payload : (List.replicate 256 (0 : Byte)).length = 256 :=
  List.length_replicate

/-- The table gives no row any bits: no word spells a command. -/
theorem test_no_word_spells_a_command : decodeTableWord 8 0 = none ∧ State.reset.withFetchWord 8 0 = State.reset := by
  decide

/-! ## Witnesses: the step, arrival, decode and offers -/

theorem witness_StepRunsTheFrontCommand :
    ({ live with pending := [.grant, .coldReset] }).pending = .grant :: [.coldReset] ∧ live.pending = [] := by
  decide

theorem witness_EveryCommandCompletesAndKeepsQueueAndClock : Instr.warmReset ≠ .coldReset := by
  decide

theorem witness_RequestFormDecidesItemAndLegibility :
    RawRequest.item { kind := 1, tag := 63, address := 63, length := 1, data := [] } = some (.mem .read 63 63 1 []) ∧
    RawRequest.item { kind := 3, tag := 255, address := 0, length := 1, data := [7] } = some (.posted 0 1 [7]) ∧
    RawRequest.item { kind := 5, tag := 0, address := 0x0138000000, length := 8, data := [] } =
      some (.configRead 0 0x0138) ∧
    RawRequest.item { kind := 6, tag := 0, address := 0x0008FFFFFF, length := 8, data := ones 8 } =
      some (.configWrite 0 0x0008 (ones 8)) ∧
    RawRequest.item { kind := 4, tag := 64, address := 0, length := 4, data := ones 4 } = none ∧
    (let kind (k : Byte) : Nat := RawRequest.kind { kind := k, tag := 0, address := 0, length := 0, data := [] } |>.toNat
    (1 ≤ kind 1 ∧ kind 4 ≤ 4) ∧ kind 5 = 5 ∧ kind 6 = 6 ∧ kind 0 < 1 ∧ 6 < kind 7) := by
  decide

theorem witness_RequestArrivalChecksCreditFormAndTag :
    let s := withHead live 0 (read4 0)
    let good (tag : Byte) : RawRequest := { kind := 1, tag, address := 0, length := 1, data := [] }
    let bad (kind : Byte) : RawRequest := { kind, tag := 8, address := 0, length := 0, data := [] }
    (s.link (.rp 0)).state = .up ∧
    ((s.setPort 0 { s.port 0 with reckoning := 0 }).link (.rp 0)).state = .up ∧
    ((s.setPort 0 { s.port 0 with reckoning := 0 }).port 0).reckoning = 0 ∧
    (s.port 0).reckoning = 6 + 1 ∧
    (bad 1).item = none ∧ (bad 1).legibleTag = some 8 ∧
    (bad 0).item = none ∧ (bad 0).legibleTag = none ∧
    (good 7).item = some (.mem .read 7 0 1 []) ∧
    ((Item.mem .read 7 0 1 []).tag = some 7 ∧ s.liveTag 0 7) ∧
    (good 8).item = some (.mem .read 8 0 1 []) ∧ (Item.mem .read 8 0 1 []).tag = some 8 ∧ ¬s.liveTag 0 8 := by
  unfold State.liveTag
  decide

theorem witness_DecodeTakesTheLowestWindowOrTheDefaultRoute :
    (live.active.windowHolds 0 0x3FF00 ∧ live.active.windowHolds 0 0x3FFFF ∧ ¬live.active.windowHolds 0 0x40000) ∧
    (live.active.windowHolds 5 0x82000 ∧ ∀ v, v < 5 → ¬live.active.windowHolds v 0x82000) ∧
    (∀ w, ¬live.active.windowHolds w 0x83FFF) ∧ (∀ w, ¬live.active.windowHolds w 0x84000) ∧
    ¬(live.active.route.ceiling ≤ 0x83FFF ∨ live.active.route.target = none) ∧
    live.active.route.ceiling ≤ 0x84000 := by
  unfold Table.windowHolds
  decide

theorem witness_DecodeAppliesDirectionRightsAndTargetState :
    (look table.windows 3).writeTarget = none ∧
    ((look table.windows 0).writeTarget = some 0 ∧ (look table.windows 0).writeRights.getLsbD 3 = true ∧
      (live.target 0).state = .opened) ∧
    (look table.windows 0).writeRights.getLsbD 2 = false ∧
    ((look table.windows 5).readTarget = some 4 ∧ (live.target 4).state ≠ .opened) ∧
    ((look table.windows 1).atomic = true ∧ (look table.windows 1).readTarget = some 0 ∧
      (look table.windows 1).writeTarget = some 0) ∧
    (look table.windows 0).atomic = false := by
  decide

theorem witness_OffersHoldAnswerRecordOrWait :
    let s (x : Item) : State := withHead live 0 x
    let item (kind : MemKind) (a : Address) : Item := .mem kind 7 a 4 []
    (s (item .read 0)).hub = .normal ∧ ((s (item .read 0)).port 0).offerDue = true ∧
    (s (item .read 0)).active.sound = true ∧ (s (item .read 0)).atHead 0 (item .read 0) ∧
    (s (item .read 0)).hasRoom 0 ∧ ¬(fullOf (s (item .read 0)) 0).hasRoom 0 ∧
    (fullOf (s (item .read 0)) 0).atHead 0 (item .read 0) ∧ ((fullOf (s (item .read 0)) 0).port 0).offerDue = true ∧
    (s (item .read 0)).decode 0 .read 0 4 = .success 0 0 ∧
    (s (item .write 0x80000000)).decode 0 .write 0x80000000 4 = .noRoute ∧
    (s (item .write 0x3FF00000)).decode 0 .write 0x3FF00000 4 = .denied 0 ∧
    (s (item .swap 0x80000000)).decode 0 .swap 0x80000000 4 = .atomicRefused ∧
    (s (item .read 0x83000000)).decode 0 .read 0x83000000 4 = .fenced ∧
    (s (.posted 0 4 (ones 4))).atHead 0 (.posted 0 4 (ones 4)) := by
  decide

/-! ## Witnesses: grants, sends and responses -/

/-- RP0 has a head that its latest offer gave TP1. -/
def granting (x : Item) : State :=
  (withHead live 0 x).setPort 0 { (withHead live 0 x).port 0 with outcome := some (1, 0) }

theorem witness_GrantGoesToTheFirstReadyHeadInRotation :
    (granting (read4 0x40000000)).ready 0 = true ∧ (granting (read4 0x40000000)).grantee = some 0 ∧
    live.grantee = none := by
  decide

theorem witness_GrantsFillTheLowestFreeEntryOrAnEgressPlace :
    let s := (granting (read4 0x40000000)).setEntry 0 (inUse .issued (some 2000))
    s.grantee = some 0 ∧ (s.port 0).outcome = some (1, 0) ∧ s.atHead 0 (read4 0x40000000) ∧
    (s.entry 1).state = .free ∧ (∀ j, j < 1 → (s.entry j).state ≠ .free) ∧
    (granting (.posted 0x40000000 4 (ones 4))).grantee = some 0 ∧
    (granting (.posted 0x40000000 4 (ones 4))).atHead 0 (.posted 0x40000000 4 (ones 4)) := by
  decide

/-- TP1 with places in its egress queue. -/
def queued (xs : List Place) : State :=
  (using31 .queued none).setTarget 1 { openTarget with egress := xs }

theorem witness_SendsPutTheHeadOfEgressOnTheLink :
    let s := queued [.entry 31 []]
    let k : Link := { upLink with replay := List.replicate 63 resetFrame }
    (s.target 1).state = .opened ∧ 0 < (s.target 1).credits ∧
    (((s.setLink (.tp 1) k).link (.tp 1)).state = .up ∧ ((s.setLink (.tp 1) k).link (.tp 1)).confirmed = true ∧
      ((s.setLink (.tp 1) k).link (.tp 1)).resetPending = false ∧
      ((s.setLink (.tp 1) k).link (.tp 1)).replay.length < 64) ∧
    (s.target 1).egress = .entry 31 [] :: [] ∧ (s.entry 31).parity = true ∧
    ((queued [.posted 0 4 (ones 4) 1]).target 1).egress = .posted 0 4 (ones 4) 1 :: [] := by
  decide

theorem witness_CreditReturnsAddOrFence :
    let spent := live.setTarget 1 { openTarget with credits := 0, advertisement := 16 }
    (live.link (.tp 4)).state = .up ∧ (live.target 4).state ≠ .opened ∧
    ((spent.link (.tp 1)).state = .up ∧ (spent.target 1).state = .opened ∧
      (spent.target 1).credits + (16#8).toNat ≤ (spent.target 1).advertisement ∧ (16#8).toNat ≤ 16) ∧
    ((0#8).toNat < 1 ∧ 16 < (17#8).toNat) ∧ (live.target 1).state = .opened ∧
    (live.target 1).advertisement < (live.target 1).credits + (1#8).toNat := by
  decide

theorem witness_MatchedResponseCompletesItsEntry :
    let s (x : EntryState) : State := (using31 x (some 1000)).setTarget 1 { openTarget with credits := 1 }
    ((s .issued).link (.tp 1)).state = .up ∧ ((s .issued).target 1).state = .opened ∧
    (s .issued).mayReturn 1 (1#8).toNat ∧ ((s .issued).entry 31).parity = true ∧
    ((s .issued).entry 31).target = some 1 ∧ ((s .issued).entry 31).state = .issued ∧
    ((s .late).entry 31).state = .late ∧ ((s .issued).entry 31).expectsData (ones 4) := by
  unfold State.mayReturn Entry.expectsData
  decide

theorem witness_LateAndStaleResponsesAnswerNothing :
    let s := using31 .abandoned (some 1000)
    (s.link (.tp 1)).state = .up ∧ (s.target 1).state = .opened ∧ s.mayReturn 1 (0#8).toNat ∧ (3#8).toNat ≤ 3 ∧
    (s.entry 31).parity = true ∧ (s.entry 31).target = some 1 ∧ (s.entry 31).state = .abandoned ∧
    (s.entry 31).expectsData (ones 4) ∧ (s.entry 31).generation ≠ 0 ∧
    ((using31 .free none).entry 31).state = .free ∧ ((using31 .free none).entry 31).target = some 1 := by
  unfold State.mayReturn Entry.expectsData
  decide

theorem witness_ProtocolBreachesFenceTheTarget :
    let s := using31 .queued none
    (s.link (.tp 1)).state = .up ∧ (s.target 1).state = .opened ∧ s.mayReturn 1 (0#8).toNat ∧ (3#8).toNat ≤ 3 ∧
    (s.entry 30).parity = true ∧ (s.entry 30).target ≠ some 1 ∧
    ((s.entry 31).target = some 1 ∧ (s.entry 31).state ≠ .free ∧ (s.entry 31).generation = 3 ∧
      (s.entry 31).state = .queued) ∧
    (¬((using31 .issued (some 1)).entry 31).expectsData (ones 3) ∧
      ((using31 .issued (some 1)).entry 31).state = .issued) ∧
    (31 < (32#8).toNat ∧ 3 < (4#8).toNat ∧ ¬s.mayReturn 1 (1#8).toNat ∧ ¬s.mayReturn 1 (17#8).toNat) := by
  unfold State.mayReturn Entry.expectsData
  decide

/-! ## Witnesses: expiries, fences and containment -/

theorem witness_StageOneAndReclaimExpiriesAnswerNothing :
    let s (x : EntryState) : State := using31 x (some 1000)
    ((s .issued).entry 31).deadline = some 1000 ∧ 1000 ≤ (s .issued).clock ∧ ((s .issued).entry 31).parity = true ∧
    ((s .issued).entry 31).target = some 1 ∧ ((s .issued).entry 31).state = .issued ∧
    ((s .abandoned).entry 31).state = .abandoned := by
  decide

theorem witness_StageTwoExpiryAbandonsTheEntry :
    let s := using31 .late (some 1000)
    (s.entry 31).state = .late ∧ (s.entry 31).deadline = some 1000 ∧ 1000 ≤ s.clock ∧ (s.entry 31).parity = true ∧
    (s.entry 31).target = some 1 ∧ (s.target 1).abandon + 1 < (s.target 1).fenceLimit ∧
    (let u := s.setTarget 1 { openTarget with abandon := 3 }
    (u.target 1).fenceLimit ≤ (u.target 1).abandon + 1 ∧ (u.entry 31).state = .late) := by
  decide

theorem witness_FenceCutsTheTargetOff :
    ((using31 .issued (some 2000)).entry 31).target = some 1 ∧ ((using31 .issued (some 2000)).entry 31).state ≠ .free ∧
    (0 : TP) ≠ 1 ∧ LinkId.rp 1 ≠ .tp 1 := by
  decide

theorem witness_DamagedEntryContainsTheHub :
    let s (x : EntryState) : State :=
      (using31 x (some 1000)).setEntry 31 { inUse x (some 1000) with parity := false }
    let q := (s .queued).setTarget 1 { openTarget with egress := [.entry 31 []] }
    (q.hub = .normal ∧ (q.entry 31).parity = false ∧ (q.target 1).state = .opened ∧ 0 < (q.target 1).credits ∧
      ((q.link (.tp 1)).state = .up ∧ (q.link (.tp 1)).confirmed = true ∧ (q.link (.tp 1)).resetPending = false ∧
        (q.link (.tp 1)).replay.length < 64) ∧ (q.target 1).egress = .entry 31 [] :: []) ∧
    ((s .issued).hub = .normal ∧ ((s .issued).link (.tp 1)).state = .up ∧ ((s .issued).target 1).state = .opened ∧
      (s .issued).mayReturn 1 (0#8).toNat) ∧
    (((s .issued).entry 31).deadline = some 1000 ∧ 1000 ≤ (s .issued).clock ∧ ((s .issued).entry 31).state = .issued ∧
      ((s .late).entry 31).state = .late ∧ ((s .abandoned).entry 31).state = .abandoned) := by
  unfold State.mayReturn
  decide

theorem witness_DamagedTableOrShadowContainsTheHub :
    let d : State := { live with active := damagedTable }
    let c : State := { live with claim := some { holder := 0, deadline := 1000, shadow := damagedTable } }
    (d.hub = .normal ∧ d.active.sound = false ∧ ((withHead d 0 (read4 0)).port 0).offerDue = true ∧
      (withHead d 0 (read4 0)).hasRoom 0 ∧ ¬(fullOf (withHead d 0 (read4 0)) 0).hasRoom 0 ∧
      (withHead d 0 (.posted 0 4 (ones 4))).atHead 0 (.posted 0 4 (ones 4))) ∧
    ((writing c 0x0008 [2]).servesCommand 0 9 0x02 [2] ∧ c.claim = some ⟨0, 1000, damagedTable⟩ ∧
      damagedTable.sound = false) ∧
    ((reading d 0x021E).servesRead 0 9 0x021E ∧ (reading d 0x021F).servesRead 0 9 0x021F ∧
      (look d.active.windows 15).parity = false ∧ (reading d 0x0220).servesRead 0 9 0x0220 ∧
      d.active.route.parity = false) ∧
    ((reading c 0x031E).servesRead 0 9 0x031E ∧ (reading c 0x031F).servesRead 0 9 0x031F ∧
      (reading c 0x0320).servesRead 0 9 0x0320) := by
  decide

theorem witness_ContainedHeadsAndRefusalPlacesAreAnswered :
    (contained.hub = .contained ∧ (withHead contained 0 (read4 0)).atHead 0 (read4 0) ∧
      (withHead contained 0 (read4 0)).hasRoom 0 ∧ ¬(fullOf (withHead contained 0 (read4 0)) 0).hasRoom 0) ∧
    (withHead contained 0 (.posted 0 4 (ones 4))).atHead 0 (.posted 0 4 (ones 4)) ∧
    (withHead live 0 (.refusal 3)).atHead 0 (.refusal 3) ∧ (withHead live 0 (.refusal 3)).hasRoom 0 ∧
    ¬(fullOf (withHead live 0 (.refusal 3)) 0).hasRoom 0 ∧ contained.cutOffKept := by
  unfold State.cutOffKept
  decide

/-! ## Witnesses: CONFIG requests -/

theorem witness_EveryConfigRequestIsServedByItsRow :
    (writing live 0x0025 [0, 1]).servesWrite 0 9 0x0025 [0, 1] ∧ writeRow 0 0x0025 [0, 1] = .leaseIntervalWrite 0 ∧
    (writing live 0xFFFF []).servesWrite 0 9 0xFFFF [] ∧ writeRow 0 0xFFFF [] = .configWrite 0 ∧
    (reading live 0x0138).servesRead 0 9 0x0138 ∧ readRow 0 0x0138 = .headFirstPartRead 0 ∧
    (writeRow 0 0x0025 [0, 1] ≠ .fence 0 ∧ (after (.leaseIntervalWrite 0) (writing live 0x0025 [0, 1])).hub = live.hub ∧
      (after (.headFirstPartRead 0) (reading live 0x0138)).hub = live.hub) := by
  decide

theorem witness_RefusedConfigRequestsInTheirOrder :
    ((writing contained 0x0008 [2]).servesWrite 0 9 0x0008 [2] ∧ contained.hub = .contained ∧
      writeRow 0 0x0008 [2] ≠ .pop 0) ∧
    ((writing noRights 0x0008 [0x12]).servesWrite 0 9 0x0008 [0x12] ∧ noRights.hub = .normal ∧
      (rightOfRow (writeRow 0 0x0008 [0x12])).map (fun right => right (noRights.rightsOf 0)) = some false) ∧
    ((writing live 0x0000 []).servesWrite 0 9 0x0000 [] ∧ (writing live 0x0008 [0x05]).servesWrite 0 9 0x0008 [0x05] ∧
      (byteAt [0x05] 0).toNat ∉ [1, 2, 3, 4, 0x10, 0x11, 0x12, 0x13, 0x20, 0x21]) ∧
    ((writing live 0x0103 []).servesWrite 0 9 0x0103 [] ∧ (writing live 0x0321 []).servesWrite 0 9 0x0321 []) ∧
    ((reading live 0x0008).servesRead 0 9 0x0008 ∧ (reading live 0x0107).servesRead 0 9 0x0107 ∧
      (reading live 0xFFFF).servesRead 0 9 0xFFFF) := by
  decide

/-- A CONFIG READ at the head of RP0 is served, whatever record it names. -/
theorem reading_served (number : BitVec 16) : (reading live number).servesRead 0 9 number :=
  ⟨rfl, of_decide_eq_true rfl⟩

theorem witness_StatusReadsReturnWhatStands :
    (reading live 0x0000).servesRead 0 9 0x0000 ∧ (reading live 0x0005).servesRead 0 9 0x0005 ∧
    ((reading live 0x0004).servesRead 0 9 0x0004 ∧ (reading live 0x0004).claim = none) ∧
    ((reading claimed 0x0004).servesRead 0 9 0x0004 ∧ (reading claimed 0x0004).claim = some ⟨0, 1000, table⟩) ∧
    (reading live 0x0013).servesRead 0 9 0x0013 ∧ (reading live 0x0035).servesRead 0 9 0x0035 ∧
    ∀ number, (reading live number).servesRead 0 9 number := by
  exact ⟨reading_served _, reading_served _, ⟨reading_served _, rfl⟩, ⟨by decide, rfl⟩, reading_served _,
    reading_served _, reading_served⟩

theorem witness_ClaimCopiesRestartsOrIsBusy :
    ((writing live 0x0008 [1]).servesCommand 0 9 0x01 [1] ∧ live.hub = .normal ∧ (live.rightsOf 0).configure = true ∧
      live.claim = none ∧ live.active.sound = true) ∧
    (let d : State := { live with active := damagedTable }
    (writing d 0x0008 [1]).servesCommand 0 9 0x01 [1] ∧ d.claim = none ∧ d.active.sound = false) ∧
    ((writing claimed 0x0008 [1]).servesCommand 0 9 0x01 [1] ∧ claimed.claim = some ⟨0, 1000, table⟩) ∧
    ((withHead claimed 1 (.configWrite 9 0x0008 [1])).servesCommand 1 9 0x01 [1] ∧ (0 : RP) ≠ 1) := by
  decide

/-- RP0 holds the claim with a window of its shadow made invalid by the commit check of R26. -/
def claimedBad : State :=
  { live with claim := some { holder := 0, deadline := 1000, shadow :=
      { table with windows := upd table.windows 0 (window 1 0 none none 0 0 false 0) } } }

theorem witness_CommitInstallsTheWholeShadowOrNothing :
    let passes (t : Table) : Prop := ∀ w, let x := look t.windows w
      (x.valid = true → x.base.toNat ≤ x.limit.toNat) ∧ (x.atomic = true → x.readTarget = x.writeTarget)
    ((writing claimed 0x0008 [2]).servesCommand 0 9 0x02 [2] ∧ claimed.hub = .normal ∧
      claimed.claim = some ⟨0, 1000, table⟩ ∧ table.sound = true ∧ passes table) ∧
    ((writing claimedBad 0x0008 [2]).servesCommand 0 9 0x02 [2] ∧
      (claimedBad.claim.map fun c => c.shadow.sound) = some true ∧
      claimedBad.claim.map (fun c => decide (passes c.shadow)) = some false) ∧
    ((withHead claimed 1 (.configWrite 9 0x0008 [2])).servesCommand 1 9 0x02 [2] ∧ (0 : RP) ≠ 1) := by
  decide

theorem witness_AbortAndLeaseExpiryEndTheClaim :
    ((writing claimed 0x0008 [3]).servesCommand 0 9 0x03 [3] ∧ claimed.hub = .normal ∧
      claimed.claim = some ⟨0, 1000, table⟩ ∧ 1000 ≤ claimed.clock) ∧
    ((writing live 0x0008 [3]).servesCommand 0 9 0x03 [3] ∧ live.claim = none) := by
  decide

theorem witness_ShadowWriteStoresWholeRecords :
    (claimed.hub = .normal ∧ claimed.claim = some ⟨0, 1000, table⟩ ∧ table.sound = true) ∧
    ((writing claimed 0x031E [1]).servesWrite 0 9 0x031E [1] ∧ (byteAt [1] 0).toNat ≤ 1 ∧
      (writing claimed 0x031E [2]).servesWrite 0 9 0x031E [2] ∧ 1 < (byteAt [2] 0).toNat) ∧
    ((writing claimed 0x031F [5, 7, 15, 15, 1, 3]).servesWrite 0 9 0x031F [5, 7, 15, 15, 1, 3] ∧
      (byteAt [5, 7, 15, 15, 1, 3] 0).toNat = (5 : TP).val ∧ (byteAt [5, 7, 15, 15, 1, 3] 1).toNat = 7 ∧
      (writing claimed 0x031F [6]).servesWrite 0 9 0x031F [6] ∧ (byteAt [6] 0).toNat = 6) ∧
    ((writing claimed 0x0320 [0x10, 0, 0, 0, 7]).servesWrite 0 9 0x0320 [0x10, 0, 0, 0, 7] ∧
      (byteAt [0x10, 0, 0, 0, 7] 0).toNat * 2 ^ 24 ≤ 2 ^ 28 ∧
      (writing claimed 0x0320 [0x10, 0, 0, 1, 7]).servesWrite 0 9 0x0320 [0x10, 0, 0, 1, 7]) := by
  decide

theorem witness_WindowsReadBackAndTheShadowIsTheHolders :
    (live.active = table ∧ (look table.windows 0).parity = true ∧ (look table.windows 15).parity = true ∧
      table.route.parity = true) ∧
    ((reading live 0x0200).servesRead 0 9 0x0200 ∧ (reading live 0x021F).servesRead 0 9 0x021F ∧
      (reading live 0x0220).servesRead 0 9 0x0220) ∧
    (claimed.claim = some ⟨0, 1000, table⟩ ∧ (reading claimed 0x0300).servesRead 0 9 0x0300 ∧
      (reading claimed 0x031F).servesRead 0 9 0x031F ∧ (reading claimed 0x0320).servesRead 0 9 0x0320) ∧
    ((reading live 0x0320).servesRead 0 9 0x0320 ∧ live.claim = none ∧
      (writing live 0x0300 []).servesWrite 0 9 0x0300 []) := by
  decide

theorem witness_RightsAreWrittenUntilTheyAreLocked :
    let locked : State := { live with rightsLock := true }
    ((writing live 0x0018 [7]).servesWrite 0 9 0x0018 [7] ∧ live.hub = .normal ∧ (live.rightsOf 0).configure = true ∧
      live.rightsLock = false ∧ (byteAt [7] 0).toNat = 1 + 2 + 4) ∧
    ((writing live 0x001B [8]).servesWrite 0 9 0x001B [8] ∧ 7 < (byteAt [8] 0).toNat) ∧
    ((writing locked 0x001B [0]).servesWrite 0 9 0x001B [0] ∧ locked.rightsLock = true) ∧
    ((writing noRights 0x001B [0]).servesWrite 0 9 0x001B [0] ∧ (noRights.rightsOf 0).configure = false) ∧
    ((writing noRights 0x0008 [4]).servesCommand 0 9 0x04 [4] ∧ (writing live 0x0008 [4]).servesCommand 0 9 0x04 [4]) := by
  decide

/-! ## Witnesses: settings and banks -/

theorem witness_IntervalCapAndLimitWrites :
    live.hub = .normal ∧ (live.rightsOf 0).configure = true ∧
    ((writing live 0x0025 [3, 0xE8]).servesWrite 0 9 0x0025 [3, 0xE8] ∧ 3 * 256 + 0xE8 = 1000 ∧
      (writing live 0x0025 [3, 0xE9]).servesWrite 0 9 0x0025 [3, 0xE9]) ∧
    ((writing live 0x0023 [0, 1]).servesWrite 0 9 0x0023 [0, 1] ∧ (writing live 0x0023 [0, 0]).servesWrite 0 9 0x0023 [0, 0]) ∧
    ((writing live 0x0024 [255]).servesWrite 0 9 0x0024 [255] ∧ (writing live 0x0024 [0]).servesWrite 0 9 0x0024 [0]) ∧
    ((writing live 0x0013 [0, 32]).servesWrite 0 9 0x0013 [0, 32] ∧
      (writing live 0x0010 [0, 33]).servesWrite 0 9 0x0010 [0, 33]) ∧
    ((writing live 0x0035 [0, 0, 0, 0, 0, 15]).servesWrite 0 9 0x0035 [0, 0, 0, 0, 0, 15] ∧
      (writing live 0x0030 [0, 0, 0, 0, 0, 16]).servesWrite 0 9 0x0030 [0, 0, 0, 0, 0, 16]) := by
  decide

theorem witness_MaskFloorAndRouteWrites :
    live.hub = .normal ∧ (live.rightsOf 0).configure = true ∧
    ((writing live 0x0154 [0, 0x70, 0, 0]).servesWrite 0 9 0x0154 [0, 0x70, 0, 0] ∧
      be32 [0, 0x70, 0, 0] 0 = 0x00700000 ∧
      ∀ k, k < 32 → (be32 [0, 0x70, 0, 0] 0).getLsbD k = true → 20 ≤ k ∧ k ≤ 22) ∧
    ((writing live 0x0104 [0, 0, 0, 1]).servesWrite 0 9 0x0104 [0, 0, 0, 1] ∧
      (be32 [0, 0, 0, 1] 0).getLsbD 0 = true) ∧
    ((writing live 0x0105 [3, 15]).servesWrite 0 9 0x0105 [3, 15] ∧
      (writing live 0x0155 [4, 0]).servesWrite 0 9 0x0155 [4, 0] ∧
      (writing live 0x0155 [0, 16]).servesWrite 0 9 0x0155 [0, 16]) := by
  decide

/-- The counter of bank HUB with a count of 5 and a threshold. -/
def counting (threshold : Nat) (tripped : Bool) : State :=
  live.setBank .hub { live.bank .hub with
    counter := { enable := true, count := 5, threshold, leakMs := 1, leakDeadline := some 1000, tripped } }

theorem witness_CounterSettingsWriteComparesAndRestarts :
    let data (threshold : Byte) : List Byte := [1, 0, 0, 0, threshold, 0]
    (writing (counting 9 false) 0x0156 (data 6)).servesWrite 0 9 0x0156 (data 6) ∧
    (writing (counting 9 false) 0x0156 (data 5)).servesWrite 0 9 0x0156 (data 5) ∧
    (writing (counting 5 true) 0x0156 (data 5)).servesWrite 0 9 0x0156 (data 5) ∧
    (writing (counting 5 true) 0x0156 (data 0)).servesWrite 0 9 0x0156 (data 0) ∧
    (writing live 0x0156 [1, 0, 0, 0x0F, 0xFF, 0]).servesWrite 0 9 0x0156 [1, 0, 0, 0x0F, 0xFF, 0] ∧
    (writing live 0x0156 [1, 0, 0, 0x10, 0, 0]).servesWrite 0 9 0x0156 [1, 0, 0, 0x10, 0, 0] ∧
    ((counting 9 false).hub = .normal ∧ ((counting 9 false).rightsOf 0).configure = true ∧
      ((counting 9 false).bank .hub).counter.count = 5 ∧ ((counting 5 true).bank .hub).counter.tripped = true) ∧
    ((writing contained 0x0156 (data 5)).servesWrite 0 9 0x0156 (data 5) ∧
      (writing noRights 0x0156 (data 5)).servesWrite 0 9 0x0156 (data 5)) := by
  decide

/-- Four records of a bank: FATAL but for the second oldest. -/
def fourRecords : List Rec :=
  [record 1 .targetPoison .fatal, record 2 .timedOut .uncorrected, record 3 .protocol .fatal, record 4 .protocol .fatal]

theorem witness_RecordCreation :
    (live.bank .hub).mask.getLsbD Kind.storageCheck.code = false ∧
    ((live.setBank .hub { live.bank .hub with mask := 0x100000 }).bank .hub).mask.getLsbD Kind.storageCheck.code = true ∧
    Bank.hub ≠ .req 0 := by
  decide

theorem witness_FullBankRule :
    let b : BankState := { BankState.reset with records := fourRecords }
    b.records = [record 1 .targetPoison .fatal] ++ [record 2 .timedOut .uncorrected] ++
      [record 3 .protocol .fatal, record 4 .protocol .fatal] ∧
    (record 2 .timedOut .uncorrected).severity ≠ .fatal ∧ b.records.length = 4 ∧
    (∀ y ∈ [record 3 .protocol .fatal, record 4 .protocol .fatal], y.severity = .fatal) ∧
    (b.records.drop 1).length < 4 ∧ (∀ y ∈ List.replicate 4 (record 3 .protocol .fatal), y.severity = .fatal) := by
  decide

theorem witness_ReasonsReachRoutedPortsThatAreUp :
    let s := live.setBank .hub { live.bank .hub with route := 0x8 }
    ((s.bank .hub).route.getLsbD (3 : RP).val = true ∧ (s.link (.rp 3)).state = .up) ∧
    (s.bank .hub).route.getLsbD (0 : RP).val = false := by
  decide

theorem witness_PopRemovesTheOldestByItsSequence :
    let s := banked [record 0x4410 .timedOut .uncorrected]
    ((writing s 0x0008 [0x10, 7, 0x44, 0x10]).servesCommand 0 9 0x10 [0x10, 7, 0x44, 0x10] ∧
      (s.rightsOf 0).handle = true ∧ (byteAt [0x10, 7, 0x44, 0x10] 1).toNat = (Bank.tgt 3).idx.val ∧
      (s.bank (.tgt 3)).records = record 0x4410 .timedOut .uncorrected :: [] ∧
      (record 0x4410 .timedOut .uncorrected).sequence = be16 [0x10, 7, 0x44, 0x10] 2) ∧
    ((writing s 0x0008 [0x10, 7, 0x44, 0x11]).servesCommand 0 9 0x10 [0x10, 7, 0x44, 0x11] ∧
      (record 0x4410 .timedOut .uncorrected).sequence ≠ be16 [0x10, 7, 0x44, 0x11] 2) ∧
    ((writing live 0x0008 [0x10, 7, 0, 0]).servesCommand 0 9 0x10 [0x10, 7, 0, 0] ∧ (live.bank (.tgt 3)).records = []) ∧
    ((writing noRights 0x0008 [0x10, 7]).servesCommand 0 9 0x10 [0x10, 7] ∧ (noRights.rightsOf 0).handle = false) ∧
    ((writing contained 0x0008 [0x10, 11]).servesCommand 0 9 0x10 [0x10, 11] ∧ (contained.rightsOf 0).handle = true ∧
      10 < (byteAt [0x10, 11] 1).toNat) := by
  decide

theorem witness_OverflowAndCountersAreClearedAndLeak :
    (live.hub = .normal ∧ (live.rightsOf 0).handle = true ∧ (byteAt [0x11, 10] 1).toNat = Bank.hub.idx.val ∧
      10 < (byteAt [0x11, 11] 1).toNat) ∧
    ((writing live 0x0008 [0x11, 10]).servesCommand 0 9 0x11 [0x11, 10] ∧
      (writing live 0x0008 [0x13, 10]).servesCommand 0 9 0x13 [0x13, 10] ∧
      (writing live 0x0008 [0x11, 11]).servesCommand 0 9 0x11 [0x11, 11] ∧
      (writing live 0x0008 [0x13, 11]).servesCommand 0 9 0x13 [0x13, 11]) ∧
    ((writing contained 0x0008 [0x11, 10]).servesCommand 0 9 0x11 [0x11, 10] ∧ contained.hub = .contained ∧
      (writing contained 0x0008 [0x13, 10]).servesCommand 0 9 0x13 [0x13, 10] ∧
      (writing noRights 0x0008 [0x11, 10]).servesCommand 0 9 0x11 [0x11, 10] ∧
      (writing noRights 0x0008 [0x13, 10]).servesCommand 0 9 0x13 [0x13, 10] ∧ (noRights.rightsOf 0).handle = false) ∧
    (((counting 9 false).bank .hub).counter.leakMs ≠ 0 ∧
      ((counting 9 false).bank .hub).counter.leakDeadline = some 1000 ∧ 1000 ≤ (counting 9 false).clock) := by
  decide

theorem witness_InjectReportsAndDoesNothingElse :
    let full : List Byte := [0x12, 10, 22, 2, 3, 63, 5, 127]
    let bare : List Byte := [0x12, 0, 8, 0, 255, 255, 255, 255]
    let foreign : List Byte := [0x12, 0, 9, 0, 255, 255, 255, 255]
    (live.hub = .normal ∧ (live.rightsOf 0).test = true) ∧
    ((writing live 0x0008 full).servesCommand 0 9 0x12 full ∧ (byteAt full 1).toNat = Bank.hub.idx.val ∧
      (byteAt full 2).toNat = Kind.claimDropped.code ∧ Bank.hub.holds .claimDropped = true ∧
      (byteAt full 3).toNat = Severity.fatal.code ∧ (byteAt full 7).toNat = (31 : Fin 32).val + 32 * (3 : Fin 4).val) ∧
    ((writing live 0x0008 bare).servesCommand 0 9 0x12 bare ∧ (byteAt bare 2).toNat = Kind.linkRetry.code ∧
      (Bank.req 0).holds .linkRetry = true) ∧
    ((writing live 0x0008 foreign).servesCommand 0 9 0x12 foreign ∧ (byteAt foreign 2).toNat = Kind.slowResponse.code ∧
      (Bank.req 0).holds .slowResponse = false) ∧
    ((writing live 0x0008 [0x12, 11]).servesCommand 0 9 0x12 [0x12, 11] ∧ 10 < (byteAt [0x12, 11] 1).toNat) := by
  decide

theorem witness_HeadPartsShareTheReadersSnapshot :
    let s := banked [record 0x4410 .timedOut .uncorrected]
    let seen := after (.headFirstPartRead 0) (reading s 0x0138)
    ((reading s 0x0138).servesRead 0 9 0x0138 ∧ (reading live 0x0138).servesRead 0 9 0x0138 ∧
      (s.bank (.tgt 3)).records.head? = some (record 0x4410 .timedOut .uncorrected) ∧
      (live.bank (.tgt 3)).records.head? = none) ∧
    ((reading seen 0x0139).servesRead 0 9 0x0139 ∧ (reading seen 0x013A).servesRead 0 9 0x013A ∧
      (seen.port 0).snapshot = some ⟨.tgt 3, some (record 0x4410 .timedOut .uncorrected)⟩) ∧
    ((reading live 0x0139).servesRead 0 9 0x0139 ∧ (live.port 0).snapshot = none ∧
      (reading seen 0x0101).servesRead 0 9 0x0101) ∧
    ((after (.headFirstPartRead 0) (reading live 0x0138)).port 0).snapshot = some ⟨.tgt 3, none⟩ := by
  decide

/-! ## Witnesses: FENCE, REOPEN and the outbound side -/

theorem witness_FenceCommandByTargetState :
    let down := live.setTarget 5 TargetPort.reset
    ((writing live 0x0008 [0x20, 5]).servesCommand 0 9 0x20 [0x20, 5] ∧ live.hub = .normal ∧
      (live.rightsOf 0).handle = true ∧ (byteAt [0x20, 5] 1).toNat = (5 : TP).val ∧ (live.target 5).state = .opened) ∧
    ((writing live 0x0008 [0x20, 4]).servesCommand 0 9 0x20 [0x20, 4] ∧ (live.target 4).state = .fenced) ∧
    ((writing down 0x0008 [0x20, 5]).servesCommand 0 9 0x20 [0x20, 5] ∧ (down.target 5).state = .down) ∧
    ((writing live 0x0008 [0x20, 6]).servesCommand 0 9 0x20 [0x20, 6] ∧ 5 < (byteAt [0x20, 6] 1).toNat) ∧
    ((writing contained 0x0008 [0x20, 5]).servesCommand 0 9 0x20 [0x20, 5] ∧ contained.hub = .contained) ∧
    ((writing noRights 0x0008 [0x20, 5]).servesCommand 0 9 0x20 [0x20, 5] ∧ (noRights.rightsOf 0).handle = false) := by
  decide

theorem witness_ReopenByStateLinkAndBank :
    let down := live.setTarget 4 TargetPort.reset
    let unlinked := live.setLink (.tp 4) Link.reset
    let held := live.setBank (.tgt 4) { live.bank (.tgt 4) with records := [record 1 .abandonLimit .fatal] }
    ((writing live 0x0008 [0x21, 4]).servesCommand 0 9 0x21 [0x21, 4] ∧ (live.target 4).state = .fenced ∧
      (live.link (.tp 4)).state = .up ∧ (live.bank (.tgt 4)).records = []) ∧
    ((writing live 0x0008 [0x21, 5]).servesCommand 0 9 0x21 [0x21, 5] ∧ (live.target 5).state = .opened) ∧
    ((writing live 0x0008 [0x21, 6]).servesCommand 0 9 0x21 [0x21, 6] ∧ 5 < (byteAt [0x21, 6] 1).toNat) ∧
    ((writing down 0x0008 [0x21, 4]).servesCommand 0 9 0x21 [0x21, 4] ∧ (down.target 4).state = .down) ∧
    ((writing unlinked 0x0008 [0x21, 4]).servesCommand 0 9 0x21 [0x21, 4] ∧ (unlinked.link (.tp 4)).state ≠ .up) ∧
    ((writing held 0x0008 [0x21, 4]).servesCommand 0 9 0x21 [0x21, 4] ∧
      ∃ r ∈ (held.bank (.tgt 4)).records, r.severity = .fatal ∧ r.injected = false) ∧
    ((writing contained 0x0008 [0x21, 4]).servesCommand 0 9 0x21 [0x21, 4] ∧
      (writing noRights 0x0008 [0x21, 4]).servesCommand 0 9 0x21 [0x21, 4]) := by
  decide

/-- RP0 with an answer and an alert of bank HUB waiting, and the kind it sent last. -/
def sending (due : Nat) (lastKind : SentKind) : State :=
  live.setPort 0 { live.port 0 with
    due, lastKind
    responses := [{ tag := 9, status := .ok, data := [] }]
    alerts := upd (live.port 0).alerts 10 (Reasons.empty.add .contain) }

theorem witness_OutboundArbiterSendsCreditsAnswersAndAlerts :
    let s := sending 0 .alert
    ((s.link (.rp 0)).state = .up ∧ (s.link (.rp 0)).confirmed = true ∧ (s.link (.rp 0)).resetPending = false ∧
      (s.link (.rp 0)).replay.length < 64) ∧
    0 < ((sending 1 .alert).port 0).due ∧
    ((s.port 0).due = 0 ∧ (s.port 0).responses = { tag := 9, status := .ok, data := [] } :: [] ∧
      (s.port 0).lastKind = .alert) ∧
    (((sending 0 .response).port 0).lastKind = .response ∧ (look (s.port 0).alerts Bank.hub.idx).contain = true ∧
      ∀ i, i < Bank.hub.idx → look (s.port 0).alerts i = Reasons.empty) ∧
    ¬((State.reset.link (.rp 0)).state = .up) ∧
    ((live.port 0).responses = [] ∧ ∀ i, look (live.port 0).alerts i = Reasons.empty) := by
  decide

/-! ## Witnesses: the hub link -/

/-- The link of TP0 in a state. -/
def linked (k : Link) : State := live.setLink (.tp 0) k

theorem witness_TrainingBringsTheLinkUp :
    let down : Link := { Link.reset with resetPending := false }
    let s := linked down
    (s.link (.tp 0)).state ≠ .up ∧ (s.link (.tp 0)).ownAcked = false ∧ (s.link (.tp 0)).state = .down ∧
    ((linked { down with ownAcked := true }).link (.tp 0)).ownAcked = true ∧
    ((linked { down with state := .training }).link (.tp 0)).state = .training ∧
    (1 ≤ (16#8).toNat ∧ (16#8).toNat ≤ 16 ∧ ¬(17#8).toNat ≤ 16 ∧ ¬1 ≤ (0#8).toNat) ∧
    (((linked { upLink with confirmed := false }).link (.tp 0)).state = .up ∧
      ((linked { upLink with confirmed := false }).link (.tp 0)).confirmed = false) ∧
    (0#8 ≠ 255 ∧ 254#8 ≠ 255) := by
  decide

theorem witness_FramesGoOutOnTheLink :
    ((State.reset.link (.tp 0)).resetPending = true ∧
      ((linked { Link.reset with resetPending := false }).link (.tp 0)).state ≠ .up ∧
      ((linked { Link.reset with resetPending := false }).link (.tp 0)).resetPending = false) ∧
    (let s := live.setLink (.rp 0) { upLink with resetPending := true }
    (s.link (.rp 0)).state = .up ∧ (s.link (.rp 0)).resetPending = true) ∧
    (let k := (linked { upLink with handed := [.nak 3] }).link (.tp 0)
    Handed.nak 3 ∈ k.handed ∧ k.state = .up ∧ k.confirmed = true ∧ k.resetPending = false) ∧
    Handed.ack255 ∈ ((linked { upLink with handed := [.ack255] }).link (.tp 0)).handed ∧
    (let k := (linked { upLink with ackDue := true }).link (.tp 0)
    Handed.ack255 ∉ k.handed ∧ k.state = .up ∧ k.ackDue = true) ∧
    ((live.link (.tp 0)).state = .up ∧ (live.link (.tp 0)).resetPending = false ∧ (live.link (.tp 0)).handed = [] ∧
      (live.link (.tp 0)).ackDue = false ∧ (live.target 0).egress = [] ∧
      (live.port 0).due = 0 ∧ (live.port 0).responses = [] ∧ ∀ i, look (live.port 0).alerts i = Reasons.empty) ∧
    (let k := (linked { upLink with confirmed := false, handed := [.nak 3] }).link (.tp 0)
    k.state = .up ∧ Handed.nak 3 ∈ k.handed ∧ k.confirmed = false ∧ k.ackDue = false) ∧
    (let s := live.setTarget 0 { openTarget with credits := 0, egress := [.posted 0 4 (ones 4) 1] }
    (s.link (.tp 0)).confirmed = true ∧ (s.link (.tp 0)).replay.length < 64 ∧ (s.target 0).egress ≠ [] ∧
      ¬0 < (s.target 0).credits) ∧
    (State.reset.link (.tp 0)).state ≠ .up := by
  decide

theorem witness_FramesTakenAreDeliveredDiscardedOrRefused :
    let k := live.link (.tp 0)
    (k.state = .up ∧ k.nak = none) ∧
    ((0#8 - k.expected).toNat = 0 ∧ (64#8 - k.expected).toNat = 64 ∧ (65#8 - k.expected).toNat = 65 ∧
      (255#8 - k.expected).toNat = 255 ∧ (1#8 - k.expected).toNat = 1) ∧
    ((List.replicate 74 (0 : Byte)).length ≤ 74 ∧ 4 ≤ (ones 4).length ∧ ¬4 ≤ (ones 3).length) ∧
    (let n : Nak := { number := 0, count := 2, deadline := some 1000 }
    ((linked { upLink with nak := some n }).link (.tp 0)).nak = some n ∧ n.count < 3 ∧ n.deadline = some 1000 ∧
      1000 ≤ (linked { upLink with nak := some n }).clock) := by
  decide

theorem witness_DeliveredPacketsReachTheirPortUnit :
    (live.link (.rp 0)).state = .up ∧ (live.link (.tp 0)).state = .up ∧ PacketKind.alert ≠ .request ∧
    (live.target 0).state = .opened ∧ (live.target 4).state ≠ .opened := by
  decide

/-- Frame `n` of a replay buffer. -/
def buffered (n : Byte) : Frame := { number := n, kind := 1, payload := [] }

theorem witness_AcksFreeFramesAndNaksReplayThem :
    let k : Link := { upLink with nextNumber := 2, replay := [buffered 255, buffered 0, buffered 1], replayCount := 2 }
    let s := linked k
    (s.link (.tp 0)).state = .up ∧
    ((s.link (.tp 0)).replay = [] ++ [buffered 255] ++ [buffered 0, buffered 1] ∧ (s.link (.tp 0)).replayCount < 3) ∧
    ((s.link (.tp 0)).replay = [buffered 255, buffered 0] ++ [buffered 1] ++ [] ∧
      ∀ g ∈ [buffered 255, buffered 0], g.number ≠ 1) ∧
    (∀ g ∈ (s.link (.tp 0)).replay, g.number ≠ 2) ∧ (2#8 = (s.link (.tp 0)).nextNumber ∧ 3#8 ≠ (s.link (.tp 0)).nextNumber) ∧
    ∀ g ∈ (s.link (.tp 0)).replay, g.number ≠ 3 := by
  decide

theorem witness_LinkLossesTakeTheLinkDown :
    ((live.link (.tp 0)).state = .up ∧ (live.link (.tp 0)).silence = some 1000 ∧ 1000 ≤ live.clock ∧
      (live.link (.tp 0)).confirmed = true) ∧
    (let n : Nak := { number := 0, count := 3, deadline := some 1000 }
    ((linked { upLink with nak := some n }).link (.tp 0)).nak = some n ∧ n.count = 3) ∧
    (let k : Link := { upLink with replay := [buffered 9], replayCount := 3 }
    ((linked k).link (.tp 0)).replay = buffered 9 :: [] ∧ ((linked k).link (.tp 0)).replayCount = 3) := by
  decide

theorem witness_PortUnitsTakeTheLoss :
    (claimed.claim = some ⟨0, 1000, table⟩ ∧ (0 : RP) ≠ 1) ∧ live.claim = none ∧
    ((using31 .issued (some 2000)).entry 31).port = 1 ∧ (live.port 1).ingress = [] ∧ (live.port 1).responses = [] ∧
    (live.target 0).state = .opened ∧ (live.target 4).state = .fenced := by
  decide

/-- The bytes of an IDLE frame whose CRC is wrong are those of no frame. -/
theorem damaged_is_no_frame (f : Frame) : frameBytes f ≠ [0, 0x13, 0, 0, 0, 0, 0] := by
  intro h
  rcases f with ⟨number, kind, _ | ⟨b, payload⟩⟩
  · have hc : bytes32 (crc32 [0, 0x13, 0]) ≠ [0, 0, 0, 0] := by decide +kernel
    simp only [frameBytes, frameBody, List.append_nil, List.cons_append, List.nil_append, List.length_nil,
      List.cons.injEq] at h
    obtain ⟨rfl, rfl, -, h⟩ := h
    exact hc h
  · have := congrArg List.length h
    simp [frameBytes, frameBody, bytes32, bytes16] at this

theorem witness_FramesReadBackFromTheirBytes :
    ((List.replicate 74 (0 : Byte)).length ≤ 74 ∧ 4 ≤ (ones 4).length ∧ (ones 4).length ≤ 74) ∧
    (∀ f : Frame, f.payload.length ≤ 255 → frameBytes f ≠ [0, 0x13, 0, 0, 0, 0, 0]) ∧
    (Frame.payload { number := 0, kind := 0x10, payload := [1, 2] }).length ≤ 255 :=
  ⟨by decide, fun f _ => damaged_is_no_frame f, by decide⟩

/-- A good IDLE, a TRAIN without its payload byte, an unknown kind, and an IDLE whose CRC is wrong, by R153. -/
theorem test_received_frames :
    (receivedCommand (.tp 0) (frameBytes { number := 5, kind := 0x13, payload := [] }),
      receivedCommand (.tp 0) (frameBytes { number := 255, kind := 0x10, payload := [] }),
      receivedCommand (.tp 0) (frameBytes { number := 0, kind := 0x15, payload := [] }),
      receivedCommand (.tp 0) [0, 0x13, 0, 0, 0, 0, 0]) =
    (.idleReceived (.tp 0) 5, .crcFailureReceived (.tp 0), .crcFailureReceived (.tp 0), .crcFailureReceived (.tp 0)) := by
  decide +kernel

/-! ## Witnesses: the invariants and the whole-machine rules -/

/-- Entry 31 is QUEUED for TP1, and its send waits in the queue of commands. -/
def aboutToSend : State := { queued [.entry 31 []] with pending := [.send 1] }

/-- Entry 31 of TP1 is LATE with its deadline reached, and its expiry waits in the queue of commands. -/
def expiring : State := { using31 .late (some 1000) with pending := [.stage2Expiry 31] }

theorem witness_ResponseRoomIsKeptByEveryStep :
    (∃ t, step aboutToSend = .next t) ∧ aboutToSend.egressKept ∧ aboutToSend.roomKept := by
  refine ⟨⟨_, rfl⟩, ?_, ?_⟩
  · unfold State.egressKept
    decide
  · unfold State.roomKept
    decide

theorem witness_BanksAndCountersAreKeptByEveryStep : (∃ t, step expiring = .next t) ∧ expiring.banksKept := by
  have h : ∀ i : Fin 11, look expiring.banks i = BankState.reset := by decide
  refine ⟨⟨_, rfl⟩, fun b => ?_⟩
  simp [State.bank, h, BankState.reset, Counter.consistent, Counter.reset]

theorem witness_TrackerAndTargetsAreKeptByEveryStep : (∃ t, step expiring = .next t) ∧ expiring.trackerKept := by
  refine ⟨⟨_, rfl⟩, ?_⟩
  unfold State.trackerKept State.egressKept State.deadlinesKept State.abandonKept State.cutOffKept
  decide

theorem witness_CreditsAreKeptByEveryStep :
    let s := (aboutToSend.setEntry 31 { inUse .queued none with lost := true }).setLink (.rp 1) Link.reset
    (∃ t, step s = .next t) ∧ s.creditsKept ∧ s.egressKept ∧ s.idleKept ∧ (s.link (.rp 1)).state ≠ .up ∧
    (∀ p rest, s.pending = .linkResetSend (.rp p) :: rest → (s.link (.rp p)).state ≠ .up) := by
  refine ⟨⟨_, rfl⟩, ?_, ?_, ?_, by decide, fun p rest h => absurd (List.cons.inj h).1 (by simp)⟩
  · unfold State.creditsKept
    decide
  · unfold State.egressKept
    decide
  · unfold State.idleKept
    decide

theorem witness_LinksAreKeptByEveryStep : (∃ t, step expiring = .next t) ∧ expiring.linksKept := by
  have h : ∀ i : Fin 10, look expiring.links i = upLink := by decide
  refine ⟨⟨_, rfl⟩, fun l => ?_⟩
  simp [State.link, h, upLink, Link.reset, Link.bounded]

theorem witness_SettingsTableAndTargetCreditsAreKeptByEveryStep :
    (∃ t, step expiring = .next t) ∧ expiring.settingsKept ∧ expiring.activeKept ∧ expiring.targetCreditsKept := by
  refine ⟨⟨_, rfl⟩, ?_⟩
  unfold State.settingsKept State.activeKept State.targetCreditsKept
  decide

theorem witness_WhatOnlySomeCommandsChange :
    (let s := { banked [record 1 .protocol .fatal] with hub := .contained, rightsLock := true }
    (∃ t, exec .grant s = .next t) ∧ record 1 .protocol .fatal ∈ (s.bank (.tgt 3)).records ∧
      s.hub = .contained ∧ s.rightsLock = true ∧ (s.target 0).state ≠ .down) ∧
    Instr.grant ≠ .coldReset ∧ Instr.grant ≠ .warmReset ∧ ∀ p, Instr.grant ≠ .pop p := by
  refine ⟨⟨⟨_, rfl⟩, by decide⟩, by simp⟩

/-! ## Worked examples of the spec, one step each -/

/-- What an offer of section 1.5 leaves: the answers of its port, and its records as kind, target and version. -/
def offered (p : RP) (x : Item) : List Answer × List (Kind × Option TP × Option (BitVec 16)) :=
  let t := after (.offer p) (withHead live p x)
  ((t.port p).responses, (t.bank (.req p)).records.map fun r => (r.kind, r.target, r.version))

/-- Section 1.5, requests b and d. -/
theorem test_offer_denied_and_atomic_refused :
    offered 1 (.mem .write 1 0x003FF01000 8 (ones 8)) = ([⟨1, .denied, []⟩], [(.denied, some 0, some 1)]) ∧
    offered 0 (.mem .swap 1 0x0080000100 8 (ones 8)) = ([⟨1, .refused, ones 8⟩], [(.atomicRefused, none, some 1)]) := by
  decide

/-- Section 1.5, requests e and f. -/
theorem test_offer_no_route :
    offered 0 (.mem .write 1 0x0080002000 4 (ones 4)) = ([⟨1, .noRoute, []⟩], [(.noRoute, none, some 1)]) ∧
    offered 0 (.mem .read 1 0x0090000000 4 []) = ([⟨1, .noRoute, ones 4⟩], [(.noRoute, none, some 1)]) := by
  decide

/-- Section 1.5, requests a, g and h. -/
theorem test_offer_success_and_fenced :
    ((after (.offer 1) (withHead live 1 (.mem .read 1 0x003FF00040 64 []))).port 1).outcome = some (0, 0) ∧
    (let t := after (.offer 3) (withHead live 3 (.posted 0x0083000010 4 (ones 4)))
    ((t.port 3).ingress, (t.port 3).due) = ([], 1) ∧ (t.bank (.req 3)).records = []) ∧
    (offered 3 (.mem .read 1 0x0082000000 8 [])).1 = [⟨1, .fenced, ones 8⟩] ∧
    (offered 3 (.mem .read 1 0x0082000000 8 [])).2.length = 0 := by
  decide

/-- Section 3.5, step 1: the search begins at RP0 after a reset. -/
theorem test_grant_fills_entry_0 :
    let t := after .grant (granting (read4 0x40000000))
    ((t.entry 0).state, (t.entry 0).generation, (t.entry 0).target) = (.queued, 1, some 1) ∧ t.lastGranted = 0 ∧
      (t.target 1).egress = [.entry 0 []] ∧ (t.port 0).due = 1 := by
  decide

/-- Section 3.5, steps 3 and 4: the sends spend a credit each. -/
theorem test_sends_spend_credits :
    let t := after (.send 1) (queued [.entry 31 [], .posted 0 1 [7] 1])
    let u := after (.postedWriteSend 1) t
    ((t.entry 31).state, (t.entry 31).deadline, (t.target 1).credits) = (.issued, some 2000, 1) ∧
      (u.target 1).egress = [] ∧ (u.target 1).credits = 0 ∧
      (u.link (.tp 1)).out.map Frame.payload =
        [[1, 31, 3, 1, 0, 0x40, 0, 0, 0, 4], [3, 0xFF, 0xFF, 1, 0, 0, 0, 0, 0, 1, 7]] := by
  decide

/-- Section 3.5, steps 7 and 10: an answer, and the second answer to the same request. -/
theorem test_response_completes_once :
    let s := (using31 .issued (some 2000)).setTarget 1 { openTarget with credits := 0 }
    let t := after (.responseIntake 1 ⟨31, 3, 0, 2, ones 4⟩) s
    let u := after (.responseIntake 1 ⟨31, 3, 0, 0, ones 4⟩) t
    ((t.entry 31).state, (t.target 1).credits, (t.port 1).responses) = (.free, 2, [⟨5, .ok, ones 4⟩]) ∧
      (u.port 1).responses.length = 1 ∧
      (u.bank (.tgt 1)).records.map (fun r => (r.kind, r.tag, r.entry)) = [(.staleResponse, none, some (31, 3))] := by
  decide

/-- Section 7.5: a POISON answers its request, fences the target and tells what was cut off. -/
theorem test_poison_fences :
    let s := ((using31 .issued (some 2000)).setEntry 10 { inUse .queued none with tag := 8 }).setTarget 1
      { openTarget with credits := 0, egress := [.entry 10 [], .posted 0 1 [7] 2] }
    let t := after (.responseIntake 1 ⟨31, 3, 3, 1, ones 4⟩) s
    (t.port 1).responses = [⟨5, .targetError, ones 4⟩, ⟨8, .fenced, ones 4⟩] ∧
      ((t.target 1).state, (t.target 1).credits, (t.link (.tp 1)).resetPending) = (.fenced, 0, true) ∧
      (t.bank (.tgt 1)).records.map (fun r => (r.kind, r.detail)) = [(.targetPoison, some (1, 1))] := by
  decide

/-- Section 4.4, times 5 and 7: a late entry and its abandonment. -/
theorem test_stage_expiries :
    let t := after (.stage1Expiry 31) (using31 .issued (some 1000))
    let u := after (.stage2Expiry 31) (using31 .late (some 1000))
    ((t.entry 31).state, (t.entry 31).deadline, (t.port 1).responses) = (.late, some 2000, []) ∧
      ((u.entry 31).state, (u.entry 31).deadline, (u.target 1).abandon) = (.abandoned, some 51000, 1) ∧
      (u.port 1).responses = [⟨5, .timedOut, ones 4⟩] := by
  decide

/-- Section 4.4, time 15: the abandonment that reaches the fence limit. -/
theorem test_abandon_limit_fences :
    let s := (using31 .late (some 1000)).setTarget 1 { openTarget with fenceLimit := 1, egress := [.posted 0 1 [7] 2] }
    let t := after (.stage2Expiry 31) s
    ((t.target 1).state, (t.target 1).abandon, (t.entry 31).state) = (.fenced, 0, .free) ∧
      (t.bank (.tgt 1)).records.map (fun r => (r.kind, r.detail)) =
        [(.timedOut, none), (.abandonLimit, some (0, 1))] := by
  decide

/-- Section 7.6: a parity failure found at a send contains the hub. -/
theorem test_send_finds_damage :
    let s := (queued [.entry 31 []]).setEntry 31 { inUse .queued none with parity := false }
    let t := after (.send 1) s
    (t.hub, (t.entry 31).state, (t.port 1).responses) = (.contained, .free, [⟨5, .hubFault, ones 4⟩]) ∧
      ((t.target 1).state, (t.target 4).state, (t.link (.tp 1)).resetPending) = (.fenced, .fenced, true) ∧
      (t.bank .hub).records.map (fun r => (r.kind, r.entry, r.detail)) =
        [(.storageCheck, some (31, 3), some (1, 0))] := by
  decide

/-- Section 8.7, steps 3 and 6: a duplicate tag, and a length of 72. -/
theorem test_arrival_checks :
    let s := withHead live 1 (.mem .read 1 0 4 [])
    let t := after (.requestArrival 1 ⟨2, 1, 0, 4, ones 4⟩) s
    let u := after (.requestArrival 1 ⟨1, 4, 0, 72, []⟩) s
    (((t.port 1).ingress.length, (t.port 1).reckoning, (t.port 1).due) = (1, 6, 1) ∧
      (t.bank (.req 1)).records.map Rec.kind = [.duplicateTag]) ∧
    ((u.port 1).ingress.drop 1 = [.refusal 4] ∧ (u.port 1).reckoning = 6 ∧
      (u.bank (.req 1)).records.map Rec.kind = [.malformed]) := by
  decide

/-- Section 2.10, times 0 and 5. -/
theorem test_claim_and_busy :
    let t := after (.claim 0) (writing live 0x0008 [1])
    let u := after (.claim 1) (withHead t 1 (.configWrite 3 0x0008 [1]))
    (t.claim.map fun c => (c.holder, c.deadline)) = some (0, 201000) ∧ (t.port 0).responses = [⟨9, .ok, []⟩] ∧
      (u.claim.map fun c => c.holder) = some 0 ∧ (u.port 1).responses = [⟨3, .busy, []⟩] := by
  decide

/-- Section 2.10, time 15, and section 11.1, time 9. -/
theorem test_commit :
    let t := after (.commit 0) (writing claimedBad 0x0008 [2])
    let u := after (.commit 0) (writing claimed 0x0008 [2])
    (t.version, (t.claim.map fun c => c.deadline), (t.port 0).responses) = (1, some 201000, [⟨9, .invalid, []⟩]) ∧
      (u.version, u.claim, (u.port 0).responses) = (2, none, [⟨9, .ok, []⟩]) := by
  decide

/-- Section 2.10, time 10: the range of W6, base page 90000h and limit page 8FFFFh. -/
theorem test_shadow_write :
    let data : List Byte := [1, 0x00, 0x90, 0x00, 0x00, 0x08, 0xFF, 0xFF]
    let t := after (.shadowWrite 0) (writing claimed 0x030C data)
    (t.claim.map fun c => (look c.shadow.windows 6).base) = some 0x90000 ∧
      (t.claim.map fun c => (look c.shadow.windows 6).limit) = some 0x8FFFF ∧ (look t.active.windows 6).valid = false := by
  decide

/-- Section 10.4: the first part, the pop by another master, and the second pop of the same record. -/
theorem test_pop_under_a_read :
    let s := banked [record 4410 .timedOut .uncorrected, record 4412 .abandonLimit .fatal]
    let t := after (.headFirstPartRead 0) (reading s 0x0138)
    let u := after (.pop 3) (withHead t 3 (.configWrite 2 0x0008 [0x10, 7, 0x11, 0x3A]))
    let v := after (.pop 0) (withHead u 0 (.configWrite 8 0x0008 [0x10, 7, 0x11, 0x3A]))
    (t.port 0).responses = [⟨9, .ok, [3, 10, 0x11, 0x3A, 0, 0, 0, 0]⟩] ∧
      (u.port 3).responses = [⟨2, .ok, []⟩] ∧ (u.bank (.tgt 3)).records.map Rec.sequence = [4412] ∧
      (v.port 0).responses.drop 1 = [⟨8, .stale, []⟩] ∧ (v.port 0).snapshot = (t.port 0).snapshot := by
  decide

/-- Section 6.6, times 0 and 13: a threshold of 3 written, and the count that reaches it. -/
theorem test_counter_trips :
    let b := Bank.tgt 0
    let t := after (.counterSettingsWrite 0) (writing live 0x0126 [1, 0, 0, 0, 3, 10])
    let s := (t.setBank b { t.bank b with
      route := 0x9, counter := { (t.bank b).counter with count := 2 } }).setEntry 11
        { inUse .issued (some 1000) with target := some 0 }
    let u := after (.stage1Expiry 11) s
    ((t.bank b).counter.threshold, (t.bank b).counter.leakDeadline, (t.port 0).responses) =
        (3, some 11000, [⟨9, .ok, []⟩]) ∧
      ((u.bank b).counter.count, (u.bank b).counter.tripped) = (3, true) ∧
      look (u.port 3).alerts b.idx = { Reasons.empty with trip := true } ∧
      look (u.port 1).alerts b.idx = Reasons.empty := by
  decide

/-- Section 6.6, time 15.5: the ALERT of TGT0 with reasons RECORD and TRIP, newest sequence 503. -/
theorem test_alert_send :
    let s := (live.setBank (.tgt 0) { live.bank (.tgt 0) with records := [record 503 .slowResponse .corrected] }).setPort 0
      { live.port 0 with alerts := upd (live.port 0).alerts 4 { Reasons.empty with record := true, trip := true } }
    let t := after (.alertSend 0) s
    (t.link (.rp 0)).out = [⟨0, 4, [4, 0x83, 0x01, 0xF7, 0, 0, 0x03, 0xE8]⟩] ∧
      (look (t.port 0).alerts 4).isEmpty = true := by
  decide

/-- Section 8.7, steps 5 and 10: the CREDIT of all credits due, then an answer. -/
theorem test_credit_and_response_sends :
    let t := after (.creditSend 0) (sending 2 .alert)
    let u := after (.responseSend 0) t
    ((t.port 0).due, (t.port 0).reckoning) = (0, 10) ∧ (u.port 0).responses = [] ∧ (u.port 0).lastKind = .response ∧
      (u.link (.rp 0)).out = [⟨0, 3, [2]⟩, ⟨1, 2, [9, 0]⟩] := by
  decide

/-- Section 7.5, times 0.7 to 1.1. -/
theorem test_reopen :
    let s := live.setBank (.tgt 4) { live.bank (.tgt 4) with records := [record 700 .targetPoison .fatal] }
    let t := after (.reopen 0) (writing s 0x0008 [0x21, 4])
    let u := after (.reopen 0) (writing live 0x0008 [0x21, 4])
    ((t.target 4).state, (t.port 0).responses) = (.fenced, [⟨9, .invalid, []⟩]) ∧
      ((u.target 4).state, (u.target 4).credits, (u.port 0).responses) = (.opened, 2, [⟨9, .ok, []⟩]) := by
  decide

/-- Section 11.1, time 1: TRAIN both ways, and the link of TP0 reaches UP with 8 credits. -/
theorem test_training :
    let t := after (.linkResetSend (.tp 0)) State.reset
    let u := run [.trainSend (.tp 0), .trainReceived (.tp 0) 8, .ackSend (.tp 0), .ack255Received (.tp 0)] t
    (t.link (.tp 0)).out = [⟨0, 0x14, []⟩] ∧
      (u.link (.tp 0)).out.drop 1 = [⟨255, 0x10, [0]⟩, ⟨255, 0x11, []⟩] ∧
      ((u.link (.tp 0)).state, (u.target 0).state, (u.target 0).credits) = (.up, .opened, 8) := by
  decide

/-- A TRAIN and an ACK carrying 255 that come before the LINK RESET of the reset is sent bring the link UP with that LINK
RESET pending; its send takes the link DOWN and leaves the port's queue, and the next link UP empties it (log entry 20); on a
target link the target stays OPEN (log entry 19). -/
theorem test_upWithResetPending :
    let up (l : LinkId) (s : State) : State := run [.trainReceived l 8, .ack255Received l] s
    let arrived := after (.requestArrival 0 { kind := 1, tag := 0, address := 0, length := 1, data := [] })
      (up (.rp 0) State.reset)
    let t := after (.linkResetSend (.rp 0)) arrived
    let v := up (.rp 0) t
    let u := after (.linkResetSend (.tp 0)) (up (.tp 0) State.reset)
    ((arrived.link (.rp 0)).state, (arrived.link (.rp 0)).resetPending, (arrived.port 0).ingress.length) = (.up, true, 1) ∧
      ((t.link (.rp 0)).state, (t.port 0).ingress.length) = (.down, 1) ∧
      ((v.link (.rp 0)).state, (v.port 0).ingress, (v.port 0).reckoning, (v.port 0).due) = (.up, [], 8, 0) ∧
      ((u.link (.tp 0)).state, (u.target 0).state) = (.down, .opened) := by
  decide

/-- Section 10.3: the rights of window 0 and the reasons byte of an ALERT, by their bits (log entries 37 and 38). -/
theorem test_rights_and_reasons_bytes :
    ((routingBytes (fun _ => 0) (look table.windows 0)).take 4 = [0, 0, 0x0F, 0x08]) ∧
      (portSetOfByte 0x08).map (fun r => r.getLsbD (3 : RP).val) = some true ∧
      byteAt (alertPayload .hub (Reasons.empty.add .contain) (some 1) 0) 1 = 0x90 := by
  decide

/-- Section 9.7, times 3 and 9: a NAK of frame 40 replays 40 and 41, and an ACK of 41 frees them. -/
theorem test_nak_and_ack :
    let s := linked { upLink with nextNumber := 42, replay := [buffered 40, buffered 41] }
    let t := after (.nakReceived (.tp 0) 40) s
    let u := after (.ackReceived (.tp 0) 41) t
    ((t.link (.tp 0)).replayCount, (t.link (.tp 0)).out) = (1, [buffered 40, buffered 41]) ∧
      (t.bank (.tgt 0)).records.map Rec.kind = [.linkRetry] ∧
      ((u.link (.tp 0)).replayCount, (u.link (.tp 0)).replay) = (0, []) := by
  decide

/-- Section 9.7, times 20 and 22: frame 18 where 17 was expected, then frame 17. -/
theorem test_gap_and_replay :
    let s := linked { upLink with expected := 17 }
    let t := after (.packetFrameReceived (.tp 0) 18 .response [0, 0, 0, 0]) s
    let u := after (.packetFrameReceived (.tp 0) 17 .credit [1]) (t.setTarget 0 { openTarget with credits := 1 })
    ((t.link (.tp 0)).expected, (t.link (.tp 0)).nak, (t.link (.tp 0)).handed) = (17, some ⟨17, 1, none⟩, [.nak 17]) ∧
      ((u.link (.tp 0)).expected, (u.link (.tp 0)).nak, (u.target 0).credits) = (18, none, 2) := by
  decide

/-- The check value of the CRC of generator 04C11DB7h, most significant bit first, initial and final FFFFFFFFh
(CRC-32/BZIP2 of "123456789"; from outside the spec, log entry 21). -/
theorem test_crc_check_value : crc32 [0x31, 0x32, 0x33, 0x34, 0x35, 0x36, 0x37, 0x38, 0x39] = 0xFC891918 := by
  decide +kernel

end Sys2Proof.Tests
end

section
/-! SUPPORT. Decode rule by rule (R9 to R13): which route the windows or the default route give for an address, and what a
direction makes of a route. Settles O6 and O7. -/

namespace Sys2Proof

/-- The search of a bank from place 0 up stops at the lowest place that passes. -/
theorem find?_toList_of_lowest {α : Type} {n : Nat} (q : α → Bool) {v : Vector α n} {i : Fin n} (hi : q (look v i) = true)
    (hlow : ∀ j, j < i → q (look v j) = false) : v.toList.find? q = some (look v i) := by
  refine List.find?_eq_some_iff_getElem.mpr ⟨hi, i.val, by simp, by simp [look], fun j hj => ?_⟩
  simpa [look] using hlow ⟨j, hj.trans i.isLt⟩ hj

/-- The search of a bank finds nothing where no place passes. -/
theorem find?_toList_eq_none {α : Type} {n : Nat} (q : α → Bool) {v : Vector α n} (h : ∀ i, q (look v i) = false) :
    v.toList.find? q = none := by
  simp [toList_eq_map_look, h]

end Sys2Proof

namespace Sys2Proof.Machine

/-! ## The route of an address -/

/-- The test of the window search is R2's containment in a valid window. -/
theorem Table.windowHolds_iff (t : Table) (w : Fin 16) (page : Nat) :
    t.windowHolds w page ↔ ((look t.windows w).valid && (look t.windows w).contains page) = true := by
  simp [Table.windowHolds, Window.contains]

theorem Table.not_windowHolds_iff (t : Table) (w : Fin 16) (page : Nat) :
    ¬t.windowHolds w page ↔ ((look t.windows w).valid && (look t.windows w).contains page) = false := by
  rw [t.windowHolds_iff, Bool.not_eq_true]

/-- Of a window that holds one page only the range is left to ask for another: it is valid. -/
theorem Table.windowHolds_iff_contains {t : Table} {w : Fin 16} {page : Nat} (h : t.windowHolds w page) (page' : Nat) :
    t.windowHolds w page' ↔ (look t.windows w).contains page' = true := by
  simp [Table.windowHolds, Window.contains, h.left]

/-- R9: the lowest valid window of the first byte's page decides alone, by the last byte's page. -/
theorem Table.locate_of_lowest_window {t : Table} {address : Address} {length : Nat} {w : Fin 16}
    (hw : t.windowHolds w (pageOf address.toNat)) (hlow : ∀ v, v < w → ¬t.windowHolds v (pageOf address.toNat)) :
    t.locate address length =
      if (look t.windows w).contains (pageOf (address.toNat + length - 1)) then some (look t.windows w).routing
      else none := by
  have hfind := find?_toList_of_lowest (fun x : Window => x.valid && x.contains (pageOf address.toNat))
    ((t.windowHolds_iff w _).mp hw) fun v hv => (t.not_windowHolds_iff v _).mp (hlow v hv)
  simp only [Table.locate, hfind]

/-- R10: where no valid window contains the first byte's page, the default route decides. -/
theorem Table.locate_of_no_window {t : Table} {address : Address} {length : Nat}
    (hno : ∀ w, ¬t.windowHolds w (pageOf address.toNat)) :
    t.locate address length =
      if t.route.ceiling ≤ pageOf address.toNat ∨ t.route.ceiling ≤ pageOf (address.toNat + length - 1) ∨
          t.route.target = none then none
      else some t.route.routing := by
  have hfind := find?_toList_eq_none (fun x : Window => x.valid && x.contains (pageOf address.toNat))
    fun w => (t.not_windowHolds_iff w _).mp (hno w)
  simp only [Table.locate, hfind, Bool.or_eq_true, decide_eq_true_eq, or_assoc]

theorem State.decode_of_locate_none {s : State} {address : Address} {length : Nat}
    (h : s.active.locate address length = none) (p : RP) (a : Access) : s.decode p a address length = .noRoute := by
  simp only [State.decode, h]

theorem State.decode_of_locate_some {s : State} {address : Address} {length : Nat} {r : Routing}
    (h : s.active.locate address length = some r) (p : RP) (a : Access) :
    s.decode p a address length = s.direct p a r := by
  simp only [State.decode, h]

/-- Settles O6: the window search and the default route are the two cases of `Table.locate`. -/
theorem decodeTakesTheLowestWindowOrTheDefaultRoute : Obligations.DecodeTakesTheLowestWindowOrTheDefaultRoute := by
  intro s p a address length
  refine ⟨fun w hw hlow => ?_, fun hno => ?_⟩
  · have hloc := Table.locate_of_lowest_window (length := length) hw hlow
    refine ⟨fun hlast => State.decode_of_locate_some ?_ p a, fun hlast => State.decode_of_locate_none ?_ p a⟩
    · exact hloc.trans (if_pos ((Table.windowHolds_iff_contains hw _).mp hlast))
    · exact hloc.trans (if_neg fun h => hlast ((Table.windowHolds_iff_contains hw _).mpr h))
  · have hloc := Table.locate_of_no_window (length := length) hno
    refine ⟨fun hout => State.decode_of_locate_none ?_ p a, fun hin => State.decode_of_locate_some ?_ p a⟩
    · exact hloc.trans (if_pos hout)
    · exact hloc.trans (if_neg hin)

/-! ## The outcome of a route -/

/-- R11, R13: no target is NO ROUTE, a missing right is DENIED before the target's state counts, and the target's state
decides the rest. -/
theorem State.choose_outcome (s : State) (target : Option TP) {allowed : Bool} {mayPass : Prop} (cls : Fin 4)
    (hpass : allowed = true ↔ mayPass) :
    (target = none → s.choose target allowed cls = .noRoute) ∧
    (∀ t, target = some t →
      (¬mayPass → s.choose target allowed cls = .denied t) ∧
      (mayPass → (s.target t).state = .opened → s.choose target allowed cls = .success t cls) ∧
      (mayPass → (s.target t).state ≠ .opened → s.choose target allowed cls = .fenced)) := by
  cases target with
  | none => simp [State.choose]
  | some u =>
    refine ⟨nofun, ?_⟩
    rintro t ⟨rfl⟩
    refine ⟨fun hdeny => ?_, fun hmay hopen => ?_, fun hmay hclosed => ?_⟩
    · simp [State.choose, mt hpass.mp hdeny]
    · simp [State.choose, hpass.mpr hmay, hopen]
    · simp [State.choose, hpass.mpr hmay, hclosed]

/-- R12: a route that is not atomic, or whose two targets are not one target, refuses a SWAP whatever the rights. -/
theorem State.direct_swap_refused (s : State) (p : RP) {r : Routing}
    (h : r.atomic = false ∨ r.readTarget ≠ r.writeTarget ∨ (r.readTarget = none ∧ r.writeTarget = none)) :
    s.direct p .swap r = .atomicRefused := by
  have hcond : (!r.atomic || r.readTarget ≠ r.writeTarget || r.readTarget = none) = true := by
    simp only [Bool.or_eq_true, Bool.not_eq_true', decide_eq_true_eq]
    rcases h with hatomic | hdiffer | ⟨hnone, -⟩
    · exact .inl (.inl hatomic)
    · exact .inl (.inr hdiffer)
    · exact .inr hnone
  exact if_pos hcond

/-- R12: on an atomic route with one target, a SWAP needs the rights of both directions. -/
theorem State.direct_swap_atomic (s : State) (p : RP) {r : Routing} {t : TP} (hatomic : r.atomic = true)
    (hread : r.readTarget = some t) (hwrite : r.writeTarget = some t) :
    s.direct p .swap r =
      s.choose (some t) (r.readRights.getLsbD p.val && r.writeRights.getLsbD p.val) r.cls := by
  simp [State.direct, hatomic, hread, hwrite]

/-- Settles O7: each direction chooses with its own target and rights, a SWAP with both once it is not refused. -/
theorem decodeAppliesDirectionRightsAndTargetState : Obligations.DecodeAppliesDirectionRightsAndTargetState := by
  intro s p r
  refine ⟨s.choose_outcome _ _ Iff.rfl, s.choose_outcome _ _ Iff.rfl, s.direct_swap_refused p, ?_⟩
  intro t hatomic hread hwrite
  rw [s.direct_swap_atomic p hatomic hread hwrite]
  exact s.choose_outcome _ _ (Bool.and_eq_true_iff)

end Sys2Proof.Machine
end

section
/-! SUPPORT. What stands at each place of the reset state, and what the two resets take from the state before them (R5, R20,
R41, R79, R101). Settles O3. -/

namespace Sys2Proof.Machine

/-! ## The places of the reset state -/

@[simp] theorem State.reset_window (w : Fin 16) : look State.reset.active.windows w = Window.reset := look_replicate _ w
@[simp] theorem State.reset_rightsOf (p : RP) : State.reset.rightsOf p = Rights.reset := look_replicate _ p
@[simp] theorem State.reset_entry (i : Fin 32) : State.reset.entry i = Entry.reset := look_replicate _ i
@[simp] theorem State.reset_port (p : RP) : State.reset.port p = RequesterPort.reset := look_replicate _ p
@[simp] theorem State.reset_target (t : TP) : State.reset.target t = TargetPort.reset := look_replicate _ t
@[simp] theorem State.reset_link (l : LinkId) : State.reset.link l = Link.reset := look_replicate _ l.idx
@[simp] theorem State.reset_bank (b : Bank) : State.reset.bank b = BankState.reset := look_replicate _ b.idx

@[simp] theorem State.reset_heldCount (p : RP) : State.reset.heldCount p = 0 := by
  refine List.countP_eq_zero.mpr fun e he => ?_
  have hfree : e = Entry.reset := by simpa [State.reset] using he
  simp [hfree, Entry.reset, Entry.heldBy, Entry.live]

/-! ## The resets -/

theorem State.reset_holdsResetValues : State.reset.holdsResetValues := by
  refine ⟨rfl, fun w => ?window, rfl, rfl, rfl, rfl, State.reset_rightsOf, rfl, rfl, fun i => ?entry,
    State.reset_heldCount, rfl, rfl, rfl, fun p => ?port, fun t => ?target, fun l => ?link⟩
  case window => simp [Window.reset]
  case entry => simp [Entry.reset]
  case port => simp [RequesterPort.reset, Reasons.empty, Reasons.isEmpty]
  case target => simp [TargetPort.reset]
  case link => simp [Link.reset]

/-- The reset values speak of nothing a warm reset keeps, nor of the queue and the numbering of free values. -/
theorem State.reset_with_holdsResetValues (clock : Nat) (banks : Vector BankState 11) (sequence : BitVec 16)
    (freeCount : Nat) (pending : List Instr) :
    State.holdsResetValues { State.reset with clock, banks, sequence, freeCount, pending } :=
  State.reset_holdsResetValues

/-- Settles O3: both resets answer the reset state, a cold one with the reset banks, a warm one with the banks kept but
for the leak. -/
theorem resetsLeaveTheResetValues : Obligations.ResetsLeaveTheResetValues := by
  intro s
  constructor
  · exact ⟨_, rfl, State.reset_with_holdsResetValues .., rfl, rfl, State.reset_bank⟩
  · exact ⟨_, rfl, State.reset_with_holdsResetValues .., rfl, rfl, fun b => look_tab _ b.idx⟩

end Sys2Proof.Machine
end

section
/-! SUPPORT. The end of a claim by ABORT and by its lease, and the rights with their lock (R29, R30, R33, R34). Settles O28
and O31. -/

namespace Sys2Proof.Machine

variable {s : State} {p q : RP} {tag : Tag} {data : List Byte}

/-! ## The end of the claim -/

/-- ABORT at the head of a port is answered with what `takeAbort` gives. -/
theorem exec_abort (h : s.servesCommand p tag 0x03 data) :
    exec (.abort p) s = .next ((s.takeAbort p).1.answered p tag (s.takeAbort p).2 []) :=
  congrArg Host.Outcome.next (State.serveCommand_eq h rfl)

theorem State.takeAbort_holder {c : Claim} (hn : s.hub = .normal) (hc : s.claim = some c) (hp : c.holder = p) :
    s.takeAbort p = (s.dropClaim, .ok) := by
  rw [State.takeAbort, State.whenNormal_eq hn, State.whenHolder_eq hc hp]

theorem State.takeAbort_busy (hn : s.hub = .normal) (h : ∀ c, s.claim = some c → c.holder ≠ p) :
    s.takeAbort p = (s, .busy) := by
  rw [State.takeAbort, State.whenNormal_eq hn, State.whenHolder_busy h]

/-- R30: the expiry asks for the deadline alone, and not for the state of the hub. -/
theorem exec_leaseExpiry_of_due {c : Claim} (hc : s.claim = some c) (hdue : c.deadline ≤ s.clock) :
    exec .leaseExpiry s = .next
      (s.dropClaim.report .hub { kind := .claimExpired, severity := .corrected, port := some c.holder }) := by
  change execLeaseExpiry s = _
  simp only [execLeaseExpiry, hc, if_pos hdue]

/-- Settles O28: ABORT by the holder and by any other port are the two outcomes of `takeAbort`; a lease that is due ends
the claim in either hub state. -/
theorem abortAndLeaseExpiryEndTheClaim : Obligations.AbortAndLeaseExpiryEndTheClaim := by
  intro s p tag data
  refine ⟨fun hserves hn => ⟨fun c hc hp => ?holder, fun hother => ?busy⟩, fun c hc hdue => ?lease⟩
  case holder => rw [exec_abort hserves, State.takeAbort_holder hn hc hp, State.dropClaim]
  case busy => rw [exec_abort hserves, State.takeAbort_busy hn hother]
  case lease => exact exec_leaseExpiry_of_due hc hdue

/-! ## The rights record -/

/-- A byte of 8 or more has a bit above the three flags (R167). -/
theorem rightsOfBytes_eq_none (h : 7 < (byteAt data 0).toNat) : rightsOfBytes data = none :=
  if_neg (Nat.not_lt.mpr h)

/-- The byte a rights record is read as is written back as the same rights. -/
theorem rightsOfBytes_of_rightsByte {x : Rights} (h : byteAt data 0 = rightsByte x) : rightsOfBytes data = some x := by
  obtain ⟨configure, handle, test⟩ := x
  simp only [rightsOfBytes, h]
  clear h
  revert configure handle test
  decide

/-- The rights byte is the one byte whose number has the three flags as its bits. -/
theorem eq_rightsByte_of_toNat {b : Byte} {configure handle test : Bool}
    (h : b.toNat = (if configure then 1 else 0) + (if handle then 2 else 0) + (if test then 4 else 0)) :
    b = rightsByte { configure, handle, test } := by
  apply BitVec.eq_of_toNat_eq
  rw [h]
  clear h
  revert configure handle test
  decide

/-! ## The rights and their lock -/

/-- A rights write at the head of a port while NORMAL: CONFIGURE, then the lock, then the range (R33). -/
theorem exec_rightsWrite (hn : s.hub = .normal) (h : s.servesWrite p tag (BitVec.ofNat 16 (0x0018 + q.val)) data)
    {x : State × Status}
    (hx : s.whenRight p Rights.configure
      (if s.rightsLock then (s, .denied)
      else s.whenValid (rightsOfBytes data) fun r => ({ s with rights := upd s.rights q r }, .ok)) = x) :
    exec (.rightsWrite p) s = .next (x.1.answered p tag x.2 []) :=
  congrArg Host.Outcome.next
    (State.serveWrite_eq h (recordOf_rights q) (congrArg some ((State.whenNormal_eq hn).trans hx)))

theorem exec_rightsWrite_denied (hn : s.hub = .normal)
    (h : s.servesWrite p tag (BitVec.ofNat 16 (0x0018 + q.val)) data)
    (hdeny : (s.rightsOf p).configure = false ∨ s.rightsLock = true) :
    exec (.rightsWrite p) s = .next (s.answered p tag .denied []) := by
  refine exec_rightsWrite hn h (x := (s, .denied)) ?_
  cases hr : (s.rightsOf p).configure with
  | false => exact State.whenRight_denied hr
  | true =>
    have hlock : s.rightsLock = true := hdeny.resolve_left (by simp [hr])
    rw [State.whenRight_eq hr, if_pos hlock]

theorem exec_rightsWrite_invalid (hn : s.hub = .normal) (hr : (s.rightsOf p).configure = true)
    (hlock : s.rightsLock = false) (h : s.servesWrite p tag (BitVec.ofNat 16 (0x0018 + q.val)) data)
    (hbytes : rightsOfBytes data = none) : exec (.rightsWrite p) s = .next (s.answered p tag .invalid []) := by
  refine exec_rightsWrite hn h (x := (s, .invalid)) ?_
  rw [State.whenRight_eq hr, if_neg (by simp [hlock]), hbytes, State.whenValid]

theorem exec_rightsWrite_ok (hn : s.hub = .normal) (hr : (s.rightsOf p).configure = true) (hlock : s.rightsLock = false)
    (h : s.servesWrite p tag (BitVec.ofNat 16 (0x0018 + q.val)) data) {r : Rights} (hbytes : rightsOfBytes data = some r) :
    exec (.rightsWrite p) s = .next (({ s with rights := upd s.rights q r }).answered p tag .ok []) := by
  refine exec_rightsWrite hn h (x := ({ s with rights := upd s.rights q r }, .ok)) ?_
  rw [State.whenRight_eq hr, if_neg (by simp [hlock]), hbytes, State.whenValid]

/-- LOCK RIGHTS at the head of a port while NORMAL asks for CONFIGURE alone, and not for the lock (R34). -/
theorem exec_lockRights (hn : s.hub = .normal) (h : s.servesCommand p tag 0x04 data) {x : State × Status}
    (hx : s.whenRight p Rights.configure ({ s with rightsLock := true }, .ok) = x) :
    exec (.lockRights p) s = .next (x.1.answered p tag x.2 []) := by
  rw [← (State.whenNormal_eq hn).trans hx]
  exact congrArg Host.Outcome.next (State.serveCommand_eq h rfl)

/-- Settles O31: the lock and CONFIGURE are judged before the byte, and the byte decides the rest. -/
theorem rightsAreWrittenUntilTheyAreLocked : Obligations.RightsAreWrittenUntilTheyAreLocked := by
  intro s p q tag data hn
  refine ⟨fun h hdeny => exec_rightsWrite_denied hn h hdeny,
    fun h hr => exec_lockRights hn h (State.whenRight_denied hr),
    fun hr => ⟨fun h hlock hbig => ?invalid, fun configure handle test hb h hlock => ?ok,
      fun h => exec_lockRights hn h (State.whenRight_eq hr)⟩⟩
  case invalid => exact exec_rightsWrite_invalid hn hr hlock h (rightsOfBytes_eq_none hbig)
  case ok => exact exec_rightsWrite_ok hn hr hlock h (rightsOfBytes_of_rightsByte (eq_rightsByte_of_toNat hb))

end Sys2Proof.Machine
end

section
/-! SUPPORT. What a grant leaves of the head it takes (R37, R44, R45), and the intake of a response step by step: its form,
its credit return, the entry it names, the completion (R49, R51 to R57). Settles O10, O13 and O14. -/

namespace Sys2Proof.Machine

variable {s : State} {p : RP} {t : TP} {cls : Fin 4} {a : Address} {n : Nat} {d : List Byte}

/-! ## Grants -/

/-- R44: the search for a FREE entry stops at the lowest one. -/
theorem State.firstFree_eq_some {i : Fin 32} (hfree : (s.entry i).state = .free)
    (hlow : ∀ j, j < i → (s.entry j).state ≠ .free) : s.firstFree = some i := by
  rw [State.firstFree, ← Fin.find?_eq_find?_finRange, Fin.find?_eq_some_iff]
  exact ⟨by simp [hfree], fun j hj => by simp [hlow j hj]⟩

/-- R43: only a ready head is granted. -/
theorem State.ready_of_grantee (h : s.grantee = some p) : s.ready p = true := List.find?_some h

/-- R42: the head of a READ, WRITE or SWAP is ready only while its port holds less than its cap. -/
theorem State.heldCount_lt_cap_of_ready {kind : MemKind} {tag : Tag} (h : s.ready p = true)
    (hout : (s.port p).outcome = some (t, cls)) (hhead : s.atHead p (.mem kind tag a n d)) :
    s.heldCount p < (s.port p).cap := by
  simp only [State.ready, hout, hhead, Bool.and_eq_true, decide_eq_true_eq] at h
  obtain ⟨-, ⟨-, hcap⟩, -⟩ := h
  exact hcap

/-- R38: a FREE entry that becomes QUEUED for a port raises the port's held count by 1. -/
theorem State.heldCount_setEntry_granted {i : Fin 32} (hfree : (s.entry i).state = .free) (kind : MemKind) (tag : Tag) :
    (s.setEntry i ((s.entry i).granted p t cls kind tag a n)).heldCount p = s.heldCount p + 1 := by
  have hold : (s.entry i).heldBy p = false := by simp [Entry.heldBy, Entry.live, hfree]
  have hnew : ((s.entry i).granted p t cls kind tag a n).heldBy p = true := by
    simp [Entry.granted, Entry.heldBy, Entry.live]
  simpa [hold, hnew] using s.heldCount_setEntry i ((s.entry i).granted p t cls kind tag a n) p

theorem exec_grant {kind : MemKind} {tag : Tag} {i : Fin 32} (hgrant : s.grantee = some p)
    (hout : (s.port p).outcome = some (t, cls)) (hhead : s.atHead p (.mem kind tag a n d)) (hi : s.firstFree = some i) :
    exec .grant s = .next
      { ((s.setEntry i ((s.entry i).granted p t cls kind tag a n)).enqueue t (.entry i d)).discarded p with
        lastGranted := p } := by
  change execGrant s = _
  simp only [execGrant, hgrant, hout, hhead, hi, State.leaveHead_eq]

theorem exec_postedWriteGrant (hgrant : s.grantee = some p) (hout : (s.port p).outcome = some (t, cls))
    (hhead : s.atHead p (.posted a n d)) :
    exec .postedWriteGrant s = .next { (s.enqueue t (.posted a n d p)).discarded p with lastGranted := p } := by
  change execPostedWriteGrant s = _
  simp only [execPostedWriteGrant, hgrant, hout, hhead, State.leaveHead_eq]

/-- Settles O10: the two rows take the two kinds of head, and the held count moves with the entry filled alone. -/
theorem grantsFillTheLowestFreeEntryOrAnEgressPlace : Obligations.GrantsFillTheLowestFreeEntryOrAnEgressPlace := by
  intro s p t cls a n d hgrant hout
  refine ⟨fun kind tag i hhead hfree hlow => ⟨?next, ?held, ?cap⟩, fun hhead => ?posted⟩
  case next => exact exec_grant hgrant hout hhead (State.firstFree_eq_some hfree hlow)
  case held => exact State.heldCount_setEntry_granted hfree kind tag
  case cap => exact State.heldCount_lt_cap_of_ready (State.ready_of_grantee hgrant) hout hhead
  case posted => exact exec_postedWriteGrant hgrant hout hhead

section Responses

variable {i : Fin 32} {g : Fin 4} {credit : Nat} {data : List Byte} {r : Response}

/-! ## The form and the credit return of a response -/

theorem byteOf_toNat {n : Nat} (h : n < 256) : (byteOf n).toNat = n := by
  simp [byteOf, Nat.mod_eq_of_lt h]

/-- R164: a response that names an entry and a generation passes the form check with a status code and a credit return in
range. -/
theorem responseOf_eq_some {status credit : Byte} {x : TargetStatus} (hstatus : TargetStatus.ofCode status.toNat = some x)
    (hcredit : credit.toNat ≤ 16) :
    responseOf { index := byteOf i.val, generation := byteOf g.val, status, credit, data } =
      some ⟨i, g, x, credit.toNat, data⟩ := by
  simp [responseOf, byteOf_toNat (show i.val < 256 by omega), byteOf_toNat (show g.val < 256 by omega), hstatus, inRange,
    hcredit]

/-- Section 9.6: the status codes of a target are 0 to 3. -/
theorem TargetStatus.ofCode_eq_some {n : Nat} (h : n ≤ 3) : ∃ x, TargetStatus.ofCode n = some x := by
  match n, h with
  | 0, _ => exact ⟨.ok, rfl⟩
  | 1, _ => exact ⟨.corrected, rfl⟩
  | 2, _ => exact ⟨.error, rfl⟩
  | 3, _ => exact ⟨.poison, rfl⟩

/-- R49: a return that stays within the advertisement is no breach. -/
theorem State.takeCredit_eq_credited (hopen : (s.target t).state = .opened) (h : s.mayReturn t credit) :
    s.takeCredit t credit = s.credited t credit := by
  have hfits : ¬(0 < credit ∧ (s.target t).advertisement < (s.target t).credits + credit) := by
    obtain ⟨-, hzero | hle⟩ := h <;> omega
  rw [State.takeCredit, if_pos hopen, if_neg hfits, State.credited]

/-- R49: returned credits change the target's credit count alone. -/
theorem State.credited_target (c : Nat) :
    (s.credited t c).target t = { s.target t with credits := (s.target t).credits + c } :=
  s.target_setTarget_same t _

/-- R51: a response of good form from an OPEN target returns its credits and is then judged by the entry it names. -/
theorem exec_responseIntake {x : RawResponse} (hup : (s.link (.tp t)).state = .up) (hopen : (s.target t).state = .opened)
    (hform : responseOf x = some r) (hret : s.mayReturn t r.credit) :
    exec (.responseIntake t x) s = .next ((s.credited t r.credit).intake t r) := by
  have hopen' : ((s.credited t r.credit).target t).state = .opened := by rw [State.credited_target]; exact hopen
  change execResponseIntake t x s = _
  simp only [execResponseIntake, hup, State.takeResponse, hopen, hform, State.takeCredit_eq_credited hopen hret, hopen',
    if_true]

/-! ## The entry a response names -/

/-- R52: the data check asks for the bytes the entry's kind expects. -/
theorem Entry.dataFits_iff (e : Entry) (data : List Byte) : e.dataFits data = true ↔ e.expectsData data := by
  unfold Entry.dataFits Entry.expectsData
  cases e.kind <;> simp

/-- R57: another generation than the entry's, or a FREE entry, makes a response STALE before its data count. -/
theorem State.intake_stale (hparity : (s.entry r.index).parity = true) (htarget : (s.entry r.index).target = some t)
    (h : (s.entry r.index).state = .free ∨ (s.entry r.index).generation ≠ r.generation) :
    s.intake t r = s.staleResponse t r := by
  simp [State.intake, hparity, htarget, h]

/-- R51, R52: a matched response with the data its entry expects is taken by the entry's state. -/
theorem State.intake_matched (hparity : (s.entry r.index).parity = true) (htarget : (s.entry r.index).target = some t)
    (hgen : (s.entry r.index).generation = r.generation) (hdata : (s.entry r.index).expectsData r.data) :
    (((s.entry r.index).state = .issued ∨ (s.entry r.index).state = .late) → s.intake t r = s.complete t r.index r) ∧
    ((s.entry r.index).state = .abandoned → s.intake t r = s.lateResponse t r.index) := by
  have hfits := ((s.entry r.index).dataFits_iff r.data).mpr hdata
  refine ⟨?_, fun habandoned => ?_⟩
  · rintro (hissued | hlate)
    · simp [State.intake, hparity, htarget, hgen, hfits, hissued]
    · simp [State.intake, hparity, htarget, hgen, hfits, hlate]
  · simp [State.intake, hparity, htarget, hgen, hfits, habandoned]

/-- R54: a report about an entry whose target is known. -/
theorem Entry.about_eq {e : Entry} {k : Kind} {severity : Severity} (htarget : e.target = some t) :
    e.about i k severity =
      { kind := k, severity, port := some e.port, tag := some e.tag, target := some t, entry := some (i, e.generation),
        address := some e.address } := by
  rw [Entry.about, htarget]

/-! ## The completion -/

/-- What `placeFor` and `freeEntry` do is what the statements call the entry answered (R39, R53). -/
theorem State.placeFor_freeEntry (status : Status) :
    (s.placeFor (s.entry i) { tag := (s.entry i).tag, status, data }).freeEntry i = s.entryAnswered i status data := by
  by_cases hlost : (s.entry i).lost = true
  · simp only [State.placeFor, State.entryAnswered, if_pos hlost]
    rfl
  · simp only [State.placeFor, State.entryAnswered, if_neg hlost]
    rfl

/-- R53: a passing status answers with the response's data; those a WRITE expects are none. -/
theorem Entry.answerData_passed {e : Entry} (hdata : e.expectsData r.data)
    (h : r.status = .ok ∨ r.status = .corrected) : e.answerData r = r.data := by
  cases hk : e.kind with
  | write =>
    have hnone : r.data = [] := by simpa [Entry.expectsData, hk] using hdata
    simp [Entry.answerData, hk, hnone]
  | read | swap => rcases h with hs | hs <;> simp [Entry.answerData, hk, hs]

/-- R53: a failing status answers with the data the hub makes. -/
theorem Entry.answerData_failed {e : Entry} (h : r.status = .error ∨ r.status = .poison) :
    e.answerData r = allOnes e.kind e.length := by
  cases hk : e.kind with
  | write => simp [Entry.answerData, hk, allOnes]
  | read | swap => rcases h with hs | hs <;> simp [Entry.answerData, hk, hs]

/-- R53, R54: a passing status answers OK, and TARGET CORRECTED leaves its record. -/
theorem State.complete_passed (hdata : (s.entry i).expectsData r.data) :
    let passed := s.entryAnswered i .ok r.data
    (r.status = .ok → s.complete t i r = passed) ∧
    (r.status = .corrected →
      s.complete t i r = passed.report (.tgt t) ((s.entry i).about i .targetCorrected .corrected)) := by
  refine ⟨fun hs => ?ok, fun hs => ?corrected⟩
  case ok =>
    simp only [State.complete, hs, TargetStatus.answer, Entry.answerData_passed hdata (.inl hs), State.placeFor_freeEntry]
  case corrected =>
    simp only [State.complete, hs, TargetStatus.answer, Entry.answerData_passed hdata (.inr hs), State.placeFor_freeEntry]

/-- R53, R54, R55: a failing status answers TARGET ERROR; the fence of a POISON finds the entry freed already. -/
theorem State.complete_failed :
    let failed := s.entryAnswered i .targetError (allOnes (s.entry i).kind (s.entry i).length)
    (r.status = .error →
      s.complete t i r = failed.report (.tgt t) ((s.entry i).about i .targetError .uncorrected)) ∧
    (r.status = .poison → s.complete t i r = failed.fenceFor t ((s.entry i).about i .targetPoison .fatal)) := by
  refine ⟨fun hs => ?error, fun hs => ?poison⟩
  case error =>
    simp only [State.complete, hs, TargetStatus.answer, Entry.answerData_failed (.inl hs), State.placeFor_freeEntry]
  case poison =>
    simp only [State.complete, hs, TargetStatus.answer, Entry.answerData_failed (.inr hs), State.placeFor_freeEntry]

/-- R38: the completion of a live entry lowers the held count of its port by 1. -/
theorem State.heldCount_entryAnswered (hlive : (s.entry i).live = true) (status : Status) :
    (s.entryAnswered i status data).heldCount (s.entry i).port + 1 = s.heldCount (s.entry i).port := by
  have hold : (s.entry i).heldBy (s.entry i).port = true := by simp [Entry.heldBy, hlive]
  have hnew : (s.entry i).freed.heldBy (s.entry i).port = false := by simp [Entry.heldBy, Entry.live, Entry.freed]
  have hentries : (s.entryAnswered i status data).entries = (s.setEntry i (s.entry i).freed).entries := by
    dsimp only [State.entryAnswered]
    split <;> rfl
  rw [State.heldCount_congr hentries]
  simpa [hold, hnew] using s.heldCount_setEntry i (s.entry i).freed (s.entry i).port

/-- Settles O13: a matched response is completed, and its status chooses among the four completions. -/
theorem matchedResponseCompletesItsEntry : Obligations.MatchedResponseCompletesItsEntry := by
  intro s t i credit data e s₁ failed about hup hopen hret hparity htarget hstate hdata
  have habout : ∀ k severity, (s₁.entry i).about i k severity = about k severity := fun _ _ => Entry.about_eq htarget
  have hexec : ∀ (code : Byte) (x : TargetStatus), TargetStatus.ofCode code.toNat = some x →
      exec (.responseIntake t (s.responseFor i code credit data)) s =
        .next (s₁.complete t i ⟨i, e.generation, x, credit.toNat, data⟩) := fun code x hx => by
    rw [State.responseFor, exec_responseIntake hup hopen (responseOf_eq_some hx hret.1) hret]
    exact congrArg Host.Outcome.next ((State.intake_matched hparity htarget rfl hdata).1 hstate)
  have hlive : (s₁.entry i).live = true := by
    have hentry : s₁.entry i = e := rfl
    rcases hstate with h | h <;> simp [Entry.live, hentry, h]
  refine ⟨?ok, ?corrected, ?error, ?poison, fun status bytes => State.heldCount_entryAnswered hlive status⟩
  case ok => rw [hexec 0 .ok rfl, (State.complete_passed hdata).1 rfl]
  case corrected => rw [hexec 1 .corrected rfl, (State.complete_passed hdata).2 rfl, habout]
  case error => rw [hexec 2 .error rfl, State.complete_failed.1 rfl, habout]; rfl
  case poison => rw [hexec 3 .poison rfl, State.complete_failed.2 rfl, habout]; rfl

/-- Settles O14: the entry's state and generation judge a response before its status does. -/
theorem lateAndStaleResponsesAnswerNothing : Obligations.LateAndStaleResponsesAnswerNothing := by
  intro s t i status credit data e s₁ freed hup hopen hret hstatus hparity htarget
  obtain ⟨x, hx⟩ := TargetStatus.ofCode_eq_some hstatus
  have hexec : ∀ g : Fin 4,
      exec (.responseIntake t { index := byteOf i.val, generation := byteOf g.val, status, credit, data }) s =
        .next (s₁.intake t ⟨i, g, x, credit.toNat, data⟩) := fun g =>
    exec_responseIntake hup hopen (responseOf_eq_some hx hret.1) hret
  have habandon : (freed.target t).abandon = (s.target t).abandon := by
    rw [show freed.target t = s₁.target t from rfl, State.credited_target]
  refine ⟨fun habandoned hdata => ?late, fun g hstale => ?stale⟩
  case late =>
    rw [State.responseFor, hexec, (State.intake_matched hparity htarget rfl hdata).2 habandoned]
    rw [← habandon, ← Entry.about_eq htarget]
    rfl
  case stale => rw [hexec, State.intake_stale hparity htarget hstale, State.staleResponse]

end Responses

end Sys2Proof.Machine
end

section
/-! SUPPORT. The stage 1 and reclaim expiries of an entry whose deadline is reached (R66, R67, R70). Settles O16. -/

namespace Sys2Proof.Machine

variable {s : State} {i : Fin 32} {t : TP} {d : Nat}

/-- R66: a deadline at or before the clock is reached. -/
theorem State.reached_of_le {deadline : Option Nat} (hd : deadline = some d) (hle : d ≤ s.clock) :
    s.reached deadline = true := by
  rw [hd]
  exact decide_eq_true hle

/-- R64: a class interval is a number of units of 8 µs. -/
theorem State.classMicros_eq (c : Fin 4) : s.classMicros c = 8 * look s.classIntervals c := rfl

/-- R67: a due ISSUED entry becomes LATE; nothing but the entry and the record of the event changes. -/
theorem exec_stage1Expiry_of_due (hissued : (s.entry i).state = .issued)
    (hdue : s.reached (s.entry i).deadline = true) (hparity : (s.entry i).parity = true)
    (htarget : (s.entry i).target = some t) :
    exec (.stage1Expiry i) s = .next
      ((s.setEntry i { s.entry i with
        state := .late, deadline := some (s.clock + s.classMicros (s.entry i).cls) }).report (.tgt t)
        ((s.entry i).about i .slowResponse .corrected)) := by
  change execStage1Expiry i s = _
  simp [execStage1Expiry, hissued, hdue, hparity, htarget]

/-- R70: a due ABANDONED entry returns to FREE, and its target has one ABANDONED entry less. -/
theorem exec_reclaimExpiry_of_due (habandoned : (s.entry i).state = .abandoned)
    (hdue : s.reached (s.entry i).deadline = true) (hparity : (s.entry i).parity = true)
    (htarget : (s.entry i).target = some t) :
    exec (.reclaimExpiry i) s = .next ((s.freeEntry i).lowerAbandon t) := by
  change execReclaimExpiry i s = _
  simp [execReclaimExpiry, habandoned, hdue, hparity, htarget]

/-- The heads that a freed entry has offered (R8) and the abandon count of a target (R69) are apart from each other. -/
theorem State.lowerAbandon_freeEntry :
    (s.freeEntry i).lowerAbandon t = ((s.setEntry i (s.entry i).freed).lowerAbandon t).offerAll := rfl

/-- Settles O16: each expiry finds its entry due and sound with its target known, and takes its one effect. -/
theorem stageOneAndReclaimExpiriesAnswerNothing : Obligations.StageOneAndReclaimExpiriesAnswerNothing := by
  intro s i t d e hdeadline hle hparity htarget
  have hdue : s.reached e.deadline = true := State.reached_of_le hdeadline hle
  refine ⟨fun hissued => ?stage1, fun habandoned => ?reclaim⟩
  case stage1 =>
    rw [exec_stage1Expiry_of_due hissued hdue hparity htarget, State.classMicros_eq, Entry.about_eq htarget]
  case reclaim =>
    rw [exec_reclaimExpiry_of_due habandoned hdue hparity htarget, State.lowerAbandon_freeEntry,
      State.lowerAbandon, State.setEntry_target, Entry.freed]

end Sys2Proof.Machine
end

section
/-! SUPPORT. The commands on an error bank under HANDLE and their bank operand (R93), what POP finds in a bank (R94), and the
leak of a counter (R103). Settles O38 and O39. -/

namespace Sys2Proof.Machine

variable {s : State} {p : RP} {b : Bank} {tag : Tag} {data : List Byte} {x : State × Status}

/-! ## The bank operand -/

theorem bankOperand_eq_some (h : (byteAt data 1).toNat = b.idx.val) : bankOperand data = some b := by
  rw [bankOperand, h, Bank.ofCode_idx]

theorem bankOperand_eq_none (h : 10 < (byteAt data 1).toNat) : bankOperand data = none := Bank.ofCode_eq_none.mpr h

/-! ## Commands under HANDLE -/

/-- R93: a command of a port with HANDLE on a bank that its operand names has its effect on that bank. -/
theorem State.whenHandle_bank {run : Bank → State × Status} (hr : (s.rightsOf p).handle = true)
    (hb : (byteAt data 1).toNat = b.idx.val) :
    s.whenRight p Rights.handle (s.whenValid (bankOperand data) run) = run b := by
  rw [State.whenRight_eq hr, bankOperand_eq_some hb, State.whenValid]

theorem State.whenHandle_invalid {run : Bank → State × Status} (hr : (s.rightsOf p).handle = true)
    (hbig : 10 < (byteAt data 1).toNat) :
    s.whenRight p Rights.handle (s.whenValid (bankOperand data) run) = (s, .invalid) := by
  rw [State.whenRight_eq hr, bankOperand_eq_none hbig, State.whenValid]

/-- R165: HUB FAULT while CONTAINED comes before DENIED without HANDLE, and both before the operands. -/
theorem State.whenNormal_whenHandle_refused {r : State × Status} {status : Status}
    (h : (s.hub = .contained ∧ status = .hubFault) ∨
      (s.hub = .normal ∧ (s.rightsOf p).handle = false ∧ status = .denied)) :
    s.whenNormal (s.whenRight p Rights.handle r) = (s, status) := by
  rcases h with ⟨hc, rfl⟩ | ⟨hn, hr, rfl⟩
  · exact State.whenNormal_contained hc
  · rw [State.whenNormal_eq hn, State.whenRight_denied hr]

/-! ## POP -/

/-- R93, R94: POP at the head of a port asks for HANDLE and a bank, and not for the state of the hub. -/
theorem exec_pop (h : s.servesCommand p tag 0x10 data)
    (hx : s.whenRight p Rights.handle (s.whenValid (bankOperand data) fun b => s.popBank b (be16 data 2)) = x) :
    exec (.pop p) s = .next (x.1.answered p tag x.2 []) := by
  rw [← hx]
  exact congrArg Host.Outcome.next (State.serveCommand_eq h rfl)

theorem State.popBank_oldest {r : Rec} {rest : List Rec} {n : BitVec 16} (hrecords : (s.bank b).records = r :: rest)
    (hseq : r.sequence = n) : s.popBank b n = (s.setBank b { s.bank b with records := rest }, .ok) := by
  simp [State.popBank, hrecords, hseq]

theorem State.popBank_otherSequence {r : Rec} {rest : List Rec} {n : BitVec 16}
    (hrecords : (s.bank b).records = r :: rest) (hseq : r.sequence ≠ n) : s.popBank b n = (s, .stale) := by
  simp [State.popBank, hrecords, hseq]

theorem State.popBank_empty {n : BitVec 16} (hrecords : (s.bank b).records = []) : s.popBank b n = (s, .stale) := by
  simp [State.popBank, hrecords]

/-- Settles O38: HANDLE is judged before the bank operand, and what the bank holds decides the rest. -/
theorem popRemovesTheOldestByItsSequence : Obligations.PopRemovesTheOldestByItsSequence := by
  intro s p b tag data h
  refine ⟨fun hr => exec_pop h (State.whenRight_denied hr), fun hr =>
    ⟨fun hbig => exec_pop h (State.whenHandle_invalid hr hbig), fun hb => ?named⟩⟩
  case named =>
    have hpop {x : State × Status} (hx : s.popBank b (be16 data 2) = x) :
        exec (.pop p) s = .next (x.1.answered p tag x.2 []) := exec_pop h ((State.whenHandle_bank hr hb).trans hx)
    exact ⟨fun r rest hrecords =>
        ⟨fun hseq => hpop (State.popBank_oldest hrecords hseq),
          fun hseq => hpop (State.popBank_otherSequence hrecords hseq)⟩,
      fun hrecords => hpop (State.popBank_empty hrecords)⟩

/-! ## CLEAR OVERFLOW and RESET COUNTER -/

/-- R93, R96: CLEAR OVERFLOW at the head of a port asks for a NORMAL hub, HANDLE and a bank. -/
theorem exec_clearOverflow (h : s.servesCommand p tag 0x11 data)
    (hx : s.whenNormal (s.whenRight p Rights.handle (s.whenValid (bankOperand data) fun b =>
      (s.setBank b { s.bank b with overflow := false }, .ok))) = x) :
    exec (.clearOverflow p) s = .next (x.1.answered p tag x.2 []) := by
  rw [← hx]
  exact congrArg Host.Outcome.next (State.serveCommand_eq h rfl)

/-- R93, R105: RESET COUNTER at the head of a port asks for a NORMAL hub, HANDLE and a bank. -/
theorem exec_resetCounter (h : s.servesCommand p tag 0x13 data)
    (hx : s.whenNormal (s.whenRight p Rights.handle (s.whenValid (bankOperand data) fun b =>
      (s.setBank b { s.bank b with counter := { (s.bank b).counter with count := 0, tripped := false } }, .ok))) = x) :
    exec (.resetCounter p) s = .next (x.1.answered p tag x.2 []) := by
  rw [← hx]
  exact congrArg Host.Outcome.next (State.serveCommand_eq h rfl)

/-! ## The leak -/

/-- R103: a leak keeps a tripped counter's count and lowers any other by 1 above 0; the next deadline is one interval on. -/
theorem Counter.leak_eq {c : Counter} {now : Nat} (hms : c.leakMs ≠ 0) :
    c.leak now = { c with
      count := if c.tripped = false ∧ 0 < c.count then c.count - 1 else c.count
      leakDeadline := some (now + 1000 * c.leakMs) } := by
  have hdeadline : leakFrom now c.leakMs = some (now + 1000 * c.leakMs) := if_neg hms
  have hcount : (if c.tripped then c.count else c.count - 1) =
      if c.tripped = false ∧ 0 < c.count then c.count - 1 else c.count := by
    cases c.tripped with
    | true => rfl
    | false => rcases Nat.eq_zero_or_pos c.count with h | h <;> simp [h]
  rw [Counter.leak, hdeadline, hcount]

theorem exec_leakExpiry_of_due (hdue : s.reached (s.bank b).counter.leakDeadline = true) :
    exec (.leakExpiry b) s = .next
      (s.setBank b { s.bank b with counter := (s.bank b).counter.leak s.clock }) :=
  congrArg Host.Outcome.next (if_pos hdue)

/-- Settles O39: the two commands share their checks and differ in the effect on the bank; a leak that is due is
`Counter.leak` on the bank's counter. -/
theorem overflowAndCountersAreClearedAndLeak : Obligations.OverflowAndCountersAreClearedAndLeak := by
  intro s p tag data
  refine ⟨fun status hrefused => ?refused, fun hn hr => ⟨fun b hb => ?cleared, fun hbig => ?invalid⟩,
    fun b d hms hdeadline hle => ?leak⟩
  case refused =>
    exact ⟨fun h => exec_clearOverflow h (State.whenNormal_whenHandle_refused hrefused),
      fun h => exec_resetCounter h (State.whenNormal_whenHandle_refused hrefused)⟩
  case cleared =>
    exact ⟨fun h => exec_clearOverflow h ((State.whenNormal_eq hn).trans (State.whenHandle_bank hr hb)),
      fun h => exec_resetCounter h ((State.whenNormal_eq hn).trans (State.whenHandle_bank hr hb))⟩
  case invalid =>
    exact ⟨fun h => exec_clearOverflow h ((State.whenNormal_eq hn).trans (State.whenHandle_invalid hr hbig)),
      fun h => exec_resetCounter h ((State.whenNormal_eq hn).trans (State.whenHandle_invalid hr hbig))⟩
  case leak =>
    rw [exec_leakExpiry_of_due (State.reached_of_le hdeadline hle), Counter.leak_eq hms]

end Sys2Proof.Machine
end

section
/-! SUPPORT. Alert reasons as a set with its membership test, and the ports that a raised reason reaches (R110). Settles
O37. -/

namespace Sys2Proof.Machine

variable {s : State} {b : Bank} {p : RP} {x y : Reason}

/-! ## Membership in a set of reasons -/

/-- Whether a reason is in the set (R110). -/
def Reasons.has (r : Reasons) (y : Reason) : Bool :=
  match y with
  | .record => r.record
  | .trip => r.trip
  | .fence => r.fence
  | .reopen => r.reopen
  | .contain => r.contain

/-- The reason just added is in the set, whether or not it was there. -/
theorem Reasons.has_add_same (r : Reasons) (x : Reason) : (r.add x).has x = true := by
  cases x <;> rfl

/-- Adding a reason neither adds nor removes any other. -/
theorem Reasons.has_add_ne (r : Reasons) (h : y ≠ x) : (r.add x).has y = r.has y := by
  cases x <;> cases y <;> trivial

theorem Reasons.has_add (r : Reasons) (x y : Reason) : (r.add x).has y = (r.has y || decide (y = x)) := by
  by_cases h : y = x
  · subst h
    rw [Reasons.has_add_same, decide_eq_true rfl, Bool.or_true]
  · rw [Reasons.has_add_ne r h, decide_eq_false h, Bool.or_false]

/-! ## The ports a raised reason reaches -/

theorem State.routed_iff :
    s.routed b p = true ↔ (s.bank b).route.getLsbD p.val = true ∧ (s.link (.rp p)).state = .up := by
  rw [State.routed, Bool.and_eq_true, decide_eq_true_iff]

theorem State.raise_alerts_routed (h : s.routed b p = true) :
    look ((s.raise b x).port p).alerts b.idx = (look (s.port p).alerts b.idx).add x := by
  rw [State.raise_alerts, if_pos ⟨h, rfl⟩]

theorem State.raise_alerts_other_bank {c : Fin 11} (h : c ≠ b.idx) :
    look ((s.raise b x).port p).alerts c = look (s.port p).alerts c := by
  rw [State.raise_alerts, if_neg fun hc => h hc.2]

/-- R79, R110: after a cold reset no port is in the route of any bank. -/
theorem route_after_coldReset {t : State} (h : exec .coldReset s = .next t) : (t.bank b).route = 0 := by
  obtain ⟨u, hu, -, -, -, hbanks⟩ := (resetsLeaveTheResetValues s).1
  obtain rfl : u = t := Host.Outcome.next.inj (hu.symm.trans h)
  exact congrArg BankState.route (hbanks b)

/-- Settles O37: a port is reached when it is routed; there the bank's set grows by `Reasons.add`, whose membership test is
the statement's, and everywhere else the frame of `State.raise` holds. -/
theorem reasonsReachRoutedPortsThatAreUp : Obligations.ReasonsReachRoutedPortsThatAreUp := by
  intro s b x
  refine ⟨fun p hreached y => ?joins, fun p hnot => ?skipped, fun p c hc => State.raise_alerts_other_bank hc,
    State.raise_port s b x, State.raise_eq s b x, fun t => route_after_coldReset⟩
  case joins =>
    rw [State.raise_alerts_routed (State.routed_iff.mpr hreached)]
    exact Reasons.has_add _ x y
  case skipped =>
    exact State.raise_port_skipped s x (Bool.eq_false_iff.mpr fun h => hnot (State.routed_iff.mp h))

end Sys2Proof.Machine
end

section
/-! SUPPORT. FENCE and REOPEN: their target operand, the checks they share, and the effect of each by the state of its
target (R125 to R127). Settles O42 and O43. -/

namespace Sys2Proof.Machine

variable {s : State} {p : RP} {t : TP} {tag : Tag} {data : List Byte} {x : State × Status}

/-! ## The target operand -/

theorem targetOperand_eq_some (h : (byteAt data 1).toNat = t.val) : targetOperand data = some t := finOf_eq_some.mpr h

theorem targetOperand_eq_none (h : 5 < (byteAt data 1).toNat) : targetOperand data = none := finOf_eq_none.mpr h

/-- R93, R131, R168: a HANDLE command on a target, past its checks, has its effect on the target its operand names. -/
theorem State.whenNormal_whenHandle_target {run : TP → State × Status} (hn : s.hub = .normal)
    (hr : (s.rightsOf p).handle = true) (ht : (byteAt data 1).toNat = t.val) :
    s.whenNormal (s.whenRight p Rights.handle (s.whenValid (targetOperand data) run)) = run t := by
  rw [State.whenNormal_eq hn, State.whenRight_eq hr, targetOperand_eq_some ht, State.whenValid]

theorem State.whenNormal_whenHandle_noTarget {run : TP → State × Status} (hn : s.hub = .normal)
    (hr : (s.rightsOf p).handle = true) (hbig : 5 < (byteAt data 1).toNat) :
    s.whenNormal (s.whenRight p Rights.handle (s.whenValid (targetOperand data) run)) = (s, .invalid) := by
  rw [State.whenNormal_eq hn, State.whenRight_eq hr, targetOperand_eq_none hbig, State.whenValid]

/-! ## FENCE -/

/-- R125: FENCE at the head of a port asks for a NORMAL hub, HANDLE and a target. -/
theorem exec_fence (h : s.servesCommand p tag 0x20 data)
    (hx : s.whenNormal (s.whenRight p Rights.handle
      (s.whenValid (targetOperand data) fun t => s.takeFence p tag t)) = x) :
    exec (.fence p) s = .next (x.1.answered p tag x.2 []) := by
  rw [← hx]
  exact congrArg Host.Outcome.next (State.serveCommand_eq h rfl)

/-- R155: a LINK RESET handed to a link is pending there, unless the link is DOWN. -/
theorem Link.handReset_eq (k : Link) :
    k.handReset = { k with resetPending := k.resetPending || decide (k.state ≠ .down) } := by
  rw [Link.handReset]
  by_cases h : k.state = .down
  · rw [if_pos h, decide_eq_false (not_not.mpr h), Bool.or_false]
  · rw [if_neg h, decide_eq_true h, Bool.or_true]

theorem State.takeFence_opened (hstate : (s.target t).state = .opened) :
    s.takeFence p tag t =
      ((s.report (.tgt t)
        { kind := .manualFence, severity := .fatal, port := some p, tag := some tag, target := some t,
          detail := some (s.fenceDetail t) }).fence t, .ok) := by
  simp only [State.takeFence, hstate, State.fenceFor]

theorem State.takeFence_fenced (hstate : (s.target t).state = .fenced) : s.takeFence p tag t = (s, .ok) := by
  simp only [State.takeFence, hstate]

/-- The record of the fence of a DOWN target does not touch its link, which takes the LINK RESET as it stood. -/
theorem State.takeFence_down (hstate : (s.target t).state = .down) :
    s.takeFence p tag t =
      ((((s.setTarget t { s.target t with state := .fenced }).report (.tgt t)
        { kind := .manualFence, severity := .fatal, port := some p, tag := some tag, target := some t,
          detail := some (0, 0) }).setLink (.tp t) (s.link (.tp t)).handReset).offerAll, .ok) := by
  simp only [State.takeFence, hstate, State.modLink, State.report_link, State.setTarget_link]

/-- Settles O42: FENCE passes its three checks in their order, and the state of the target decides its effect. -/
theorem fenceCommandByTargetState : Obligations.FenceCommandByTargetState := by
  intro s p t tag data h u manual
  refine ⟨fun hc => exec_fence h (State.whenNormal_whenHandle_refused (.inl ⟨hc, rfl⟩)),
    fun hn hr => exec_fence h (State.whenNormal_whenHandle_refused (.inr ⟨hn, hr, rfl⟩)),
    fun hn hr => ⟨fun hbig => exec_fence h (State.whenNormal_whenHandle_noTarget hn hr hbig), fun ht => ?named⟩⟩
  case named =>
    have htake : exec (.fence p) s = .next ((s.takeFence p tag t).1.answered p tag (s.takeFence p tag t).2 []) :=
      exec_fence h (State.whenNormal_whenHandle_target hn hr ht)
    refine ⟨fun hopen => ?opened, fun hfenced => ?fenced, fun hdown => ?down⟩
    case opened => rw [htake, State.takeFence_opened hopen]
    case fenced => rw [htake, State.takeFence_fenced hfenced]
    case down => rw [htake, State.takeFence_down hdown, Link.handReset_eq]

/-! ## REOPEN -/

/-- R126: REOPEN at the head of a port asks for a NORMAL hub, HANDLE and a target. -/
theorem exec_reopen (h : s.servesCommand p tag 0x21 data)
    (hx : s.whenNormal (s.whenRight p Rights.handle
      (s.whenValid (targetOperand data) fun t => s.takeReopen t)) = x) :
    exec (.reopen p) s = .next (x.1.answered p tag x.2 []) := by
  rw [← hx]
  exact congrArg Host.Outcome.next (State.serveCommand_eq h rfl)

theorem BankState.holdsFatal_iff {b : BankState} :
    b.holdsFatal = true ↔ ∃ r ∈ b.records, r.severity = .fatal ∧ r.injected = false := by
  simp [BankState.holdsFatal]

theorem State.takeReopen_opened (hstate : (s.target t).state = .opened) : s.takeReopen t = (s, .ok) := by
  simp only [State.takeReopen, hstate]

theorem State.takeReopen_down (hstate : (s.target t).state = .down) : s.takeReopen t = (s, .busy) := by
  simp only [State.takeReopen, hstate]

/-- R126: of a FENCED target the link is judged before the bank. -/
theorem State.takeReopen_fenced (hstate : (s.target t).state = .fenced) :
    s.takeReopen t =
      if (s.link (.tp t)).state ≠ .up then (s, .busy)
      else if (s.bank (.tgt t)).holdsFatal then (s, .invalid)
      else (s.openTarget t, .ok) := by
  simp only [State.takeReopen, hstate]

/-- Settles O43: REOPEN passes its three checks in their order; the state of the target, then its link, then its bank
decide the rest. -/
theorem reopenByStateLinkAndBank : Obligations.ReopenByStateLinkAndBank := by
  intro s p t tag data h u up held
  refine ⟨fun hc => exec_reopen h (State.whenNormal_whenHandle_refused (.inl ⟨hc, rfl⟩)),
    fun hn hr => exec_reopen h (State.whenNormal_whenHandle_refused (.inr ⟨hn, hr, rfl⟩)),
    fun hn hr => ⟨fun hbig => exec_reopen h (State.whenNormal_whenHandle_noTarget hn hr hbig), fun ht => ?named⟩⟩
  case named =>
    have htake : exec (.reopen p) s = .next ((s.takeReopen t).1.answered p tag (s.takeReopen t).2 []) :=
      exec_reopen h (State.whenNormal_whenHandle_target hn hr ht)
    refine ⟨fun hopen => ?opened, fun hdown => ?down, fun hfenced hup => ?linkNotUp, fun hfenced hup hheld => ?held,
      fun hfenced hup hheld => ?accepted⟩
    case opened => rw [htake, State.takeReopen_opened hopen]
    case down => rw [htake, State.takeReopen_down hdown]
    case linkNotUp => rw [htake, State.takeReopen_fenced hfenced, if_pos hup]
    case held =>
      rw [htake, State.takeReopen_fenced hfenced, if_neg (not_not.mpr hup), if_pos (BankState.holdsFatal_iff.mpr hheld)]
    case accepted =>
      rw [htake, State.takeReopen_fenced hfenced, if_neg (not_not.mpr hup), if_neg (mt BankState.holdsFatal_iff.mp hheld),
        State.openTarget]

end Sys2Proof.Machine
end

section
/-! SUPPORT. The creation of a record: the counter's offer, the full-bank rule, and the reasons the bank raises (R85, R87,
R102, R108, R109). Settles O35 and O36. -/

namespace Sys2Proof.Machine

variable {s : State} {b : Bank} {r : Report}

/-! ## The full-bank rule -/

/-- R87: only a full bank loses or refuses a record. -/
theorem fullBank_of_room {k : BankState} (x : Rec) (h : k.records.length < 4) :
    fullBank k x = { k with records := k.records ++ [x] } := if_pos h

/-- The search for the newest record that is not FATAL passes the FATAL ones behind it. -/
theorem displaceNewest_append {older newer : List Rec} {x : Rec} (hx : x.severity ≠ .fatal)
    (hnewer : ∀ y ∈ newer, y.severity = .fatal) : displaceNewest (older ++ [x] ++ newer) = older ++ newer := by
  have hskip : ∀ y ∈ newer.reverse, ¬(decide (y.severity ≠ .fatal) = true) := fun y hy => by
    simp [hnewer y (List.mem_reverse.mp hy)]
  simp only [displaceNewest, List.reverse_append, List.reverse_cons, List.reverse_nil, List.nil_append]
  rw [List.eraseP_append_right _ hskip, List.singleton_append, List.eraseP_cons_of_pos (by simpa using hx)]
  simp

/-- A full bank of FATAL records only notes the overflow. -/
theorem fullBank_of_fatals {k : BankState} (x : Rec) (hlen : k.records.length = 4)
    (hall : ∀ y ∈ k.records, y.severity = .fatal) : fullBank k x = { k with overflow := true } := by
  have hnone : k.records.any (fun y => y.severity ≠ .fatal) = false := by
    simpa [List.any_eq_false] using hall
  simp only [fullBank, hlen, hnone, Bool.and_false]
  rfl

theorem fullBank_of_not_fatal {k : BankState} {x : Rec} (hlen : k.records.length = 4) (hx : x.severity ≠ .fatal) :
    fullBank k x = { k with overflow := true } := by
  simp [fullBank, hlen, hx]

theorem fullBank_displacing {k : BankState} {r x : Rec} {older newer : List Rec}
    (hrecords : k.records = older ++ [x] ++ newer) (hx : x.severity ≠ .fatal)
    (hnewer : ∀ y ∈ newer, y.severity = .fatal) (hlen : k.records.length = 4) (hr : r.severity = .fatal) :
    fullBank k r = { k with records := older ++ newer ++ [r], overflow := true } := by
  have hany : k.records.any (fun y => y.severity ≠ .fatal) = true := by
    simpa [List.any_eq_true] using ⟨x, by simp [hrecords], hx⟩
  have hcond : (decide (r.severity = .fatal) && k.records.any fun y => y.severity ≠ .fatal) = true := by
    rw [hany, decide_eq_true hr]; rfl
  rw [fullBank, if_neg (by simp [hlen]), if_pos hcond]
  rw [hrecords, displaceNewest_append hx hnewer]

/-- One record leaves where one that is not FATAL stands in the queue. -/
theorem displaceNewest_length {records : List Rec} (h : records.any (fun x => x.severity ≠ .fatal) = true) :
    (displaceNewest records).length + 1 = records.length := by
  obtain ⟨x, hx, hq⟩ := List.any_eq_true.mp h
  have hlen := List.length_eraseP_of_mem (p := fun y : Rec => decide (y.severity ≠ .fatal)) (l := records.reverse) (List.mem_reverse.mpr hx) hq
  have hpos : 0 < records.length := List.length_pos_of_mem hx
  simp only [displaceNewest, List.length_reverse] at hlen ⊢
  omega

/-- Every FATAL record stays when the newest of the others leaves. -/
theorem mem_displaceNewest_of_fatal {records : List Rec} {x : Rec} (hmem : x ∈ records) (hx : x.severity = .fatal) :
    x ∈ displaceNewest records := by
  rw [displaceNewest, List.mem_reverse]
  exact (List.mem_eraseP_of_neg (by simp [hx])).mpr (List.mem_reverse.mpr hmem)

/-- R87: what the full-bank rule makes of a queue: one record more, one displaced for it, or the queue as it stood. -/
theorem fullBank_cases (k : BankState) (x : Rec) :
    (k.records.length < 4 ∧ (fullBank k x).records = k.records ++ [x]) ∨
      (¬k.records.length < 4 ∧ k.records.any (fun y => y.severity ≠ .fatal) = true ∧
        (fullBank k x).records = displaceNewest k.records ++ [x]) ∨
      (fullBank k x).records = k.records := by
  by_cases hroom : k.records.length < 4
  · exact .inl ⟨hroom, by rw [fullBank_of_room x hroom]⟩
  · rw [fullBank, if_neg hroom]
    split
    · next h => exact .inr (.inl ⟨hroom, (Bool.and_eq_true_iff.mp h).2, rfl⟩)
    · exact .inr (.inr rfl)

theorem fullBank_length_le {k : BankState} (x : Rec) (h : k.records.length ≤ 4) : (fullBank k x).records.length ≤ 4 := by
  rcases fullBank_cases k x with ⟨hroom, he⟩ | ⟨-, hany, he⟩ | he
  · rw [he, List.length_append, List.length_singleton]; omega
  · rw [he, List.length_append, List.length_singleton, displaceNewest_length hany]; exact h
  · rw [he]; exact h

/-- R87: no FATAL record leaves its bank for a new one. -/
theorem mem_fullBank_of_fatal {k : BankState} {x : Rec} (y : Rec) (hmem : x ∈ k.records) (hx : x.severity = .fatal) :
    x ∈ (fullBank k y).records := by
  rcases fullBank_cases k y with ⟨-, he⟩ | ⟨-, -, he⟩ | he
  · rw [he]; exact List.mem_append_left _ hmem
  · rw [he]; exact List.mem_append_left _ (mem_displaceNewest_of_fatal hmem hx)
  · rw [he]; exact hmem

/-- Settles O36: the branches of the rule, and the bound of each. -/
theorem fullBankRule : Obligations.FullBankRule := by
  intro k r
  exact ⟨fullBank_of_room r, fun older x newer hrecords hx hnewer hlen hr =>
    fullBank_displacing hrecords hx hnewer hlen hr, fullBank_of_fatals r, fullBank_of_not_fatal, fullBank_length_le r⟩

/-! ## The counter -/

/-- R102: what an offered record does to a counter. -/
theorem Counter.offer_eq (c : Counter) (severity : Severity) :
    let counted := decide (severity = .corrected) && c.enable && !c.tripped
    let trips := counted && decide (c.count + 1 = c.threshold)
    c.offer severity = { c with
      count := if counted then c.count + 1 else c.count, tripped := c.tripped || trips } := by
  dsimp only [Counter.offer]
  cases hcounted : decide (severity = .corrected) && c.enable && !c.tripped with
  | false => simp
  | true =>
    have htripped : c.tripped = false := by simp at hcounted; exact hcounted.2
    simp [htripped]

/-- R102: a record trips the counter that it brings to its threshold, and no tripped counter trips again. -/
theorem Counter.offer_newlyTripped (c : Counter) (severity : Severity) :
    ((c.offer severity).tripped && !c.tripped) =
      (decide (severity = .corrected) && c.enable && !c.tripped && decide (c.count + 1 = c.threshold)) := by
  rw [Counter.offer_eq]
  cases c.tripped <;> simp

/-! ## The reasons of a record -/

theorem State.raise_routed (x : Reason) (c : Bank) (p : RP) : (s.raise b x).routed c p = s.routed c p := rfl

/-- The record itself leaves the pending alerts and the routing of reasons as they were. -/
theorem State.recorded_port (p : RP) : (s.recorded b r).port p = s.port p := rfl

theorem State.recorded_bank (c : Bank) :
    (s.recorded b r).bank c =
      if b = c then { fullBank (s.bank b) (s.newRecord r) with counter := (s.bank b).counter.offer r.severity }
      else s.bank c := State.bank_setBank _ _ _ _

/-- A record, its counter's trip among it, leaves the route of every bank. -/
theorem State.recorded_routed (c : Bank) (p : RP) : (s.recorded b r).routed c p = s.routed c p := by
  have hroute : ((s.recorded b r).bank c).route = (s.bank c).route := by
    rw [State.recorded_bank]
    split
    · next h =>
      subst h
      unfold fullBank
      split
      · rfl
      · split <;> rfl
    · rfl
  rw [State.routed, State.routed, hroute]
  rfl

/-- R108, R109: the pending alerts of a port after a report that is not masked. -/
theorem State.report_alerts (h : (s.bank b).masks r.kind = false) (p : RP) (i : Fin 11) :
    look ((s.report b r).port p).alerts i =
      if s.routed b p = true ∧ i = b.idx then
        { look (s.port p).alerts i with
          record := (look (s.port p).alerts i).record || atFloor r.severity (s.bank b).floor
          trip := (look (s.port p).alerts i).trip ||
            (((s.bank b).counter.offer r.severity).tripped && !(s.bank b).counter.tripped) }
      else look (s.port p).alerts i := by
  rw [State.report_unmasked s h]
  dsimp only
  generalize atFloor r.severity (s.bank b).floor = floored
  generalize (((s.bank b).counter.offer r.severity).tripped && !(s.bank b).counter.tripped) = trips
  by_cases hr : s.routed b p = true ∧ i = b.idx
  · obtain ⟨hrouted, rfl⟩ := hr
    cases floored <;> cases trips <;>
      simp [State.raise_alerts, State.raise_routed, State.recorded_routed, State.recorded_port, hrouted, Reasons.add]
  · cases floored <;> cases trips <;>
      simp [State.raise_alerts, State.raise_routed, State.recorded_routed, State.recorded_port, hr]

/-- R110: a report raises reasons of its own bank alone. -/
theorem State.report_alerts_other_bank {i : Fin 11} (hi : i ≠ b.idx) (p : RP) :
    look ((s.report b r).port p).alerts i = look (s.port p).alerts i := by
  cases h : (s.bank b).masks r.kind with
  | true => rw [State.report_masked s h]
  | false => rw [State.report_alerts h, if_neg fun hc => hi hc.2]

/-- What a report that is not masked leaves in the banks and the sequence counter. -/
theorem State.report_bank (h : (s.bank b).masks r.kind = false) (c : Bank) :
    (s.report b r).bank c = (s.recorded b r).bank c := by
  rw [State.report_unmasked s h]
  dsimp only
  split <;> split <;> rfl

theorem State.report_sequence (h : (s.bank b).masks r.kind = false) : (s.report b r).sequence = s.sequence + 1 := by
  rw [State.report_unmasked s h]
  dsimp only
  split <;> split <;> rfl

/-- R109: a floor is met where the severity reaches it. -/
theorem atFloor_eq (severity : Severity) (floor : Option Severity)
    {d : Decidable (∃ x, floor = some x ∧ x.code ≤ severity.code)} :
    atFloor severity floor = @decide (∃ x, floor = some x ∧ x.code ≤ severity.code) d := by
  cases floor <;> simp [atFloor]

/-- Settles O35: a masked report is nothing; any other is the record, with the reasons its bank raises. -/
theorem recordCreation : Obligations.RecordCreation := by
  intro s b r f k c counted trips atOrAbove
  refine ⟨fun hmask => State.report_masked s hmask, fun hmask => ⟨State.report_sequence hmask, ?bank,
    fun x hx => State.report_bank_ne s r hx.symm, fun p => ?reasons, fun p x hx => State.report_alerts_other_bank hx p,
    State.report_port s b r, State.report_eq s b r⟩⟩
  case bank => rw [State.report_bank hmask, State.recorded_bank, if_pos rfl, Counter.offer_eq]; rfl
  case reasons =>
    have hrouted := State.routed_iff (s := s) (b := b) (p := p)
    dsimp only
    rw [State.report_alerts hmask, Counter.offer_newlyTripped, atFloor_eq]
    by_cases hr : s.routed b p = true
    · rw [if_pos ⟨hr, rfl⟩, if_pos (hrouted.mp hr)]
    · rw [if_neg fun hc => hr hc.1, if_neg (mt hrouted.mpr hr)]

end Sys2Proof.Machine
end

section
/-! SUPPORT. The fence of a target and the containment of the hub, entry by entry and port by port, with what they place in
the response queues (R82, R121, R130). Settles O18 and O19. -/

namespace Sys2Proof

/-- A count over a bank, by place. -/
theorem countP_toList {α : Type} {n : Nat} (q : α → Bool) (v : Vector α n) :
    v.toList.countP q = ((List.finRange n).filter fun i => q (look v i)).length := by
  rw [toList_eq_map_look, List.countP_map, List.countP_eq_length_filter]
  rfl

/-- Two counts of different things among those that a third one counts. -/
theorem countP_add_countP_le {α : Type} {p q r : α → Bool} (hp : ∀ x, p x = true → r x = true ∧ q x = false)
    (hq : ∀ x, q x = true → r x = true) (l : List α) : l.countP p + l.countP q ≤ l.countP r := by
  induction l with
  | nil => simp
  | cons x l ih =>
    simp only [List.countP_cons]
    have hpx := hp x
    have hqx := hq x
    cases hpv : p x <;> cases hqv : q x <;> cases hrv : r x <;> simp_all <;> omega

end Sys2Proof

namespace Sys2Proof.Machine

variable {s : State}

/-! ## The ending of entries -/

/-- The ending of entries changes their places, and of a port the response queue alone. -/
theorem State.endEntries_port_eq (sel : Entry → Bool) (st : Status) (p : RP) :
    (s.endEntries sel st).port p = { s.port p with responses := (s.port p).responses ++ s.endAnswers sel st p } :=
  look_tab _ p

theorem State.endEntries_heldCount (sel : Entry → Bool) (st : Status) (p : RP) :
    (s.endEntries sel st).heldCount p =
      s.entries.toList.countP fun e => e.heldBy p && !(sel e && decide (e.state ≠ .free)) := by
  simp only [State.heldCount, countP_toList, State.endEntries, look_tab]
  congr 2
  funext i
  cases h : sel (look s.entries i) && decide ((look s.entries i).state ≠ .free) with
  | false => simp
  | true => simp [Entry.heldBy, Entry.live, Entry.freed]

/-- R145: each answer of an ended entry takes the place of one held entry of its port. -/
theorem State.endEntries_load_le (sel : Entry → Bool) (st : Status) (p : RP) :
    (s.endAnswers sel st p).length + (s.endEntries sel st).heldCount p ≤ s.heldCount p := by
  rw [State.endEntries_heldCount, State.endAnswers, List.length_map, ← List.countP_eq_length_filter]
  refine countP_add_countP_le (fun e he => ?_) (fun e he => (Bool.and_eq_true_iff.mp he).1) _
  simp only [Bool.and_eq_true, decide_eq_true_eq] at he
  obtain ⟨⟨⟨hsel, hlive⟩, -⟩, hport⟩ := he
  have hused : e.state ≠ .free := by
    intro hfree
    simp [Entry.live, hfree] at hlive
  simp [Entry.heldBy, hlive, hport, hsel, hused]

/-- The answers of a hub-made ending, by place (R121, R130). -/
theorem State.endAnswers_eq (sel : Entry → Bool) (st : Status) (p : RP) :
    s.endAnswers sel st p =
      ((List.finRange 32).filter fun i =>
        sel (s.entry i) && (s.entry i).live && !(s.entry i).lost && decide ((s.entry i).port = p)).map
        fun i => (s.entry i).hubAnswer st := by
  rw [State.endAnswers, toList_eq_map_look, List.filter_map, List.map_map]
  rfl

/-- R121, R130: the count of a detail, by place. -/
theorem State.endCount_eq (sel : Entry → Bool) :
    s.endCount sel =
      ((List.finRange 32).filter fun i => sel (s.entry i) && (s.entry i).live && !(s.entry i).lost).length :=
  countP_toList _ _

/-! ## The fence -/

section Fence

variable {t : TP}

theorem State.fence_entry (i : Fin 32) :
    (s.fence t).entry i =
      if (s.entry i).target = some t ∧ (s.entry i).state ≠ .free then (s.entry i).freed else s.entry i := by
  simp only [State.fence, State.offerAll_entry, State.raise_entry, State.modLink_entry, State.setTarget_entry,
    State.endEntries_entry, ofTarget, Bool.and_eq_true, decide_eq_true_eq]

theorem State.fence_target_same : (s.fence t).target t = (s.target t).cutOff := by
  simp only [State.fence, State.offerAll_target, State.raise_target, State.modLink_target, State.target_setTarget_same,
    State.endEntries_target]

theorem State.fence_target_ne {u : TP} (h : u ≠ t) : (s.fence t).target u = s.target u := by
  simp only [State.fence, State.offerAll_target, State.raise_target, State.modLink_target,
    State.target_setTarget_ne _ _ h.symm, State.endEntries_target]

theorem State.fence_link_same : (s.fence t).link (.tp t) = (s.link (.tp t)).handReset := by
  simp only [State.fence, State.offerAll_link, State.raise_link, State.link_modLink_same, State.setTarget_link,
    State.endEntries_link]

theorem State.fence_link_ne {l : LinkId} (h : l ≠ .tp t) : (s.fence t).link l = s.link l := by
  simp only [State.fence, State.offerAll_link, State.raise_link, State.link_modLink_ne _ _ h.symm, State.setTarget_link,
    State.endEntries_link]

/-- Neither the ending of entries nor the LINK RESET of a target touches what routes reasons to requester ports. -/
theorem State.fence_routed (b : Bank) (p : RP) :
    (((s.endEntries (ofTarget t) .fenced).setTarget t
      ((s.endEntries (ofTarget t) .fenced).target t).cutOff).modLink (.tp t) Link.handReset).routed b p =
      s.routed b p := by
  simp [State.routed]

theorem State.fence_port (p : RP) :
    (s.fence t).port p =
      { s.port p with
        responses := (s.port p).responses ++ s.endAnswers (ofTarget t) .fenced p
        alerts := ((s.fence t).port p).alerts
        offerDue := true } := by
  simp only [State.fence, State.port_offerAll]
  rw [State.raise_port, State.modLink_port, State.setTarget_port, State.endEntries_port_eq]

theorem State.fence_alerts (p : RP) (i : Fin 11) :
    look ((s.fence t).port p).alerts i =
      if s.routed (.tgt t) p = true ∧ i = (Bank.tgt t).idx then (look (s.port p).alerts i).add .fence
      else look (s.port p).alerts i := by
  simp only [State.fence, State.port_offerAll]
  rw [State.raise_alerts, State.fence_routed, State.modLink_port, State.setTarget_port, State.endEntries_port_eq]

theorem State.fence_heldCount (p : RP) :
    (s.fence t).heldCount p = (s.endEntries (ofTarget t) .fenced).heldCount p := by
  simp only [State.fence, State.offerAll_heldCount, State.raise_heldCount, State.modLink_heldCount,
    State.setTarget_heldCount]

theorem State.fence_eq :
    s.fence t = { s with
      entries := (s.fence t).entries, targets := (s.fence t).targets, links := (s.fence t).links,
      ports := (s.fence t).ports } := by
  simp only [State.fence, State.offerAll, State.raise, State.modLink, State.setLink, State.setTarget, State.endEntries]

/-- R145: a fence does not raise the load of a response queue. -/
theorem State.fence_load_le (p : RP) :
    ((s.fence t).port p).responses.length + (s.fence t).heldCount p ≤ (s.port p).responses.length + s.heldCount p := by
  have h := s.endEntries_load_le (ofTarget t) .fenced p
  rw [State.fence_port, State.fence_heldCount, List.length_append]
  omega

end Fence

/-- Settles O18: the fence ends the entries of the target, cuts its port unit off, and raises FENCE where it is routed. -/
theorem fenceCutsTheTargetOff : Obligations.FenceCutsTheTargetOff := by
  intro s t f owed isPosted
  refine ⟨?detail, fun i => State.fence_entry i, State.fence_target_same, fun u hu => State.fence_target_ne hu,
    State.fence_link_same.trans (Link.handReset_eq _), fun l hl => State.fence_link_ne hl, fun p => ?responses,
    fun p => ?port, fun p b => ?alerts, fun p => State.fence_load_le p, State.fence_eq⟩
  case detail =>
    rw [State.fenceDetail, State.endCount_eq, List.countP_eq_length_filter]
    exact congrArg₂ Prod.mk rfl (congrArg List.length (List.filter_congr fun x _ => by cases x <;> rfl))
  case responses =>
    have hport := congrArg RequesterPort.responses (State.fence_port (s := s) (t := t) p)
    rw [hport, State.endAnswers_eq]
    simp only [Entry.hubAnswer, hubData_eq]
    rfl
  case port =>
    have hport := State.fence_port (s := s) (t := t) p
    rw [hport]
  case alerts =>
    rw [State.fence_alerts]
    refine if_congr ?_ rfl rfl
    rw [State.routed_iff]
    exact and_comm

/-! ## Containment -/

/-- The cutting off of everything (R130 steps 2 to 5), without the reasons. -/
def State.cutOffAll (s : State) : State :=
  let s₂ := ({ s with hub := .contained }).endEntries (fun _ => true) .hubFault
  { s₂ with
    targets := tab fun t => (look s₂.targets t).cutOff
    links := tab fun i => if 4 ≤ i.val then (look s₂.links i).handReset else look s₂.links i }

/-- A FENCE reason for each target of a list that was OPEN (R130). -/
def State.raiseFences (s v : State) (l : List TP) : State :=
  l.foldl (fun x t => if (s.target t).state = .opened then x.raise (.tgt t) .fence else x) v

/-- The state behind the STORAGE CHECK record of a containment (R130 step 1). -/
def State.storageRecorded (s : State) (r : Report) : State :=
  s.report .hub (storageReport r (s.endCount fun _ => true, 0))

/-- Containment is the record, the cutting off, and the reasons. -/
theorem State.contain_eq (r : Report) :
    s.contain r = s.raiseFences (((s.storageRecorded r).cutOffAll).raise .hub .contain) (List.finRange 6) := rfl

/-- A read of the state that no raised reason changes is the same after the reasons of containment. -/
theorem State.raiseFences_read {α : Type} (g : State → α) (h : ∀ v b x, g (State.raise v b x) = g v) (v : State)
    (l : List TP) : g (s.raiseFences v l) = g v := foldl_raise_fence g h _ l v

theorem State.contain_read {α : Type} (g : State → α) (h : ∀ v b x, g (State.raise v b x) = g v) (r : Report) :
    g (s.contain r) = g (s.storageRecorded r).cutOffAll := by
  rw [State.contain_eq, State.raiseFences_read g h, h]

theorem State.cutOffAll_entry (i : Fin 32) :
    s.cutOffAll.entry i = if (s.entry i).state ≠ .free then (s.entry i).freed else s.entry i := by
  have h : s.cutOffAll.entry i = _ := ({ s with hub := .contained } : State).endEntries_entry (fun _ => true) .hubFault i
  rw [h]
  simp only [Bool.true_and, decide_eq_true_eq]
  rfl

theorem State.cutOffAll_target (t : TP) : s.cutOffAll.target t = (s.target t).cutOff := look_tab _ t

theorem State.cutOffAll_link (l : LinkId) :
    s.cutOffAll.link l = if 4 ≤ l.idx.val then (s.link l).handReset else s.link l := look_tab _ l.idx

theorem State.cutOffAll_port (p : RP) :
    s.cutOffAll.port p =
      { s.port p with responses := (s.port p).responses ++ s.endAnswers (fun _ => true) .hubFault p } :=
  look_tab _ p

theorem State.storageRecorded_endAnswers (r : Report) (sel : Entry → Bool) (st : Status) (p : RP) :
    (s.storageRecorded r).endAnswers sel st p = s.endAnswers sel st p := by
  simp [State.endAnswers, State.storageRecorded]

theorem State.contain_entry (r : Report) (i : Fin 32) :
    (s.contain r).entry i = if (s.entry i).state ≠ .free then (s.entry i).freed else s.entry i := by
  rw [State.contain_read (fun v => v.entry i) fun _ _ _ => rfl, State.cutOffAll_entry, State.storageRecorded,
    State.report_entry]

theorem State.contain_target (r : Report) (t : TP) : (s.contain r).target t = (s.target t).cutOff := by
  rw [State.contain_read (fun v => v.target t) fun _ _ _ => rfl, State.cutOffAll_target, State.storageRecorded,
    State.report_target]

theorem State.contain_link_tp (r : Report) (t : TP) : (s.contain r).link (.tp t) = (s.link (.tp t)).handReset := by
  rw [State.contain_read (fun v => v.link (.tp t)) fun _ _ _ => rfl, State.cutOffAll_link, State.storageRecorded,
    State.report_link, if_pos (by simp [LinkId.idx])]

theorem State.contain_link_rp (r : Report) (p : RP) : (s.contain r).link (.rp p) = s.link (.rp p) := by
  rw [State.contain_read (fun v => v.link (.rp p)) fun _ _ _ => rfl, State.cutOffAll_link, State.storageRecorded,
    State.report_link, if_neg (by simp [LinkId.idx])]

theorem State.contain_bank (r : Report) (b : Bank) : (s.contain r).bank b = (s.storageRecorded r).bank b :=
  State.contain_read (fun v => v.bank b) (fun _ _ _ => rfl) r

/-- R130: containment changes the response queue and the pending alerts of a port and nothing else of it. -/
theorem State.contain_port (r : Report) (p : RP) :
    (s.contain r).port p =
      { s.port p with
        responses := (s.port p).responses ++ s.endAnswers (fun _ => true) .hubFault p
        alerts := ((s.contain r).port p).alerts } := by
  have hread := State.contain_read (s := s) (fun v => { v.port p with alerts := (s.port p).alerts })
    (fun v b x => by rw [State.raise_port]) r
  have hall := congrArg (fun u : RequesterPort => { u with alerts := ((s.contain r).port p).alerts }) hread
  refine hall.trans ?_
  rw [State.cutOffAll_port, State.storageRecorded_endAnswers, State.storageRecorded, State.report_port]

theorem State.contain_heldCount (r : Report) (p : RP) :
    (s.contain r).heldCount p = (s.endEntries (fun _ => true) .hubFault).heldCount p := by
  rw [State.contain_read (fun v => v.heldCount p) fun _ _ _ => rfl]
  refine State.heldCount_congr ?_ p
  change (tab _ : Vector Entry 32) = tab _
  rw [State.storageRecorded, State.report_entries]

/-- R145: containment does not raise the load of a response queue. -/
theorem State.contain_load_le (r : Report) (p : RP) :
    ((s.contain r).port p).responses.length + (s.contain r).heldCount p ≤ (s.port p).responses.length + s.heldCount p := by
  have h := s.endEntries_load_le (fun _ => true) .hubFault p
  rw [State.contain_port, State.contain_heldCount, List.length_append]
  omega

/-- The reasons of a containment find the routes and links of the requester ports as the record left them. -/
theorem State.cutOffAll_routed (b : Bank) (p : RP) : s.cutOffAll.routed b p = s.routed b p := by
  have hbank : s.cutOffAll.bank b = s.bank b := rfl
  rw [State.routed, State.routed, hbank, State.cutOffAll_link, if_neg (by simp [LinkId.idx])]

/-- The route of a bank is no part of a report. -/
theorem State.report_routed {b : Bank} (r : Report) (c : Bank) (p : RP) :
    (s.report b r).routed c p = s.routed c p := by
  rcases s.report_cases b r with h | h | h | h | h <;> rw [h] <;> simp only [State.raise_routed, State.recorded_routed]

/-- R130: the FENCE reasons of a containment reach the banks of the targets that were OPEN. -/
theorem State.raiseFences_alerts (v : State) (p : RP) (i : Fin 11) {l : List TP} (hl : l.Nodup) :
    look ((s.raiseFences v l).port p).alerts i =
      if ∃ t ∈ l, i = (Bank.tgt t).idx ∧ (s.target t).state = .opened ∧ v.routed (.tgt t) p = true then
        (look (v.port p).alerts i).add .fence
      else look (v.port p).alerts i := by
  induction l generalizing v with
  | nil => simp [State.raiseFences]
  | cons t l ih =>
    obtain ⟨hnotin, hnodup⟩ := List.nodup_cons.mp hl
    have hstep : s.raiseFences v (t :: l) =
        s.raiseFences (if (s.target t).state = .opened then v.raise (.tgt t) .fence else v) l := rfl
    rw [hstep]
    by_cases hopen : (s.target t).state = .opened
    · rw [if_pos hopen, ih _ hnodup]
      simp only [State.raise_routed, State.raise_alerts, List.exists_mem_cons_iff]
      by_cases hi : i = (Bank.tgt t).idx
      · subst hi
        have hrest : ¬∃ u ∈ l, (Bank.tgt t).idx = (Bank.tgt u).idx ∧ (s.target u).state = .opened ∧
            v.routed (.tgt u) p = true := by
          rintro ⟨u, hu, hidx, -⟩
          obtain rfl : t = u := by simpa using hidx
          exact hnotin hu
        rw [if_neg hrest]
        exact if_congr (by simp [hopen, hnotin]) rfl rfl
      · simp [hi]
    · rw [if_neg hopen, ih _ hnodup]
      simp [hopen]

theorem State.contain_alerts (r : Report) (p : RP) (i : Fin 11) :
    look ((s.contain r).port p).alerts i =
      if ∃ t, i = (Bank.tgt t).idx ∧ (s.target t).state = .opened ∧ s.routed (.tgt t) p = true then
        (look (s.port p).alerts i).add .fence
      else if s.routed .hub p = true ∧ i = Bank.hub.idx then
        (look ((s.storageRecorded r).port p).alerts i).add .contain
      else look ((s.storageRecorded r).port p).alerts i := by
  rw [State.contain_eq, State.raiseFences_alerts _ _ _ (List.nodup_finRange 6)]
  have hrouted : ∀ b, (s.storageRecorded r).cutOffAll.routed b p = s.routed b p := fun b => by
    rw [State.cutOffAll_routed, State.storageRecorded, State.report_routed]
  have hcut : ((s.storageRecorded r).cutOffAll.port p).alerts = ((s.storageRecorded r).port p).alerts := by
    rw [State.cutOffAll_port]
  simp only [State.raise_routed, State.raise_alerts, hrouted, hcut, List.mem_finRange, true_and]
  by_cases ht : ∃ t, i = (Bank.tgt t).idx ∧ (s.target t).state = .opened ∧ s.routed (.tgt t) p = true
  · have hne : i ≠ Bank.hub.idx := by
      obtain ⟨t, rfl, -⟩ := ht
      simp
    rw [if_pos ht, if_pos ht, if_neg fun h => hne h.2, State.storageRecorded, State.report_alerts_other_bank hne]
  · rw [if_neg ht, if_neg ht]

/-- R130: containment leaves everything but the hub state, entries, targets, links, ports, banks and sequence counter. -/
theorem State.contain_frame (r : Report) :
    s.contain r = { s with
      hub := (s.contain r).hub, entries := (s.contain r).entries, targets := (s.contain r).targets,
      links := (s.contain r).links, ports := (s.contain r).ports, banks := (s.contain r).banks,
      sequence := (s.storageRecorded r).sequence } := by
  have hseq : (s.contain r).sequence = (s.storageRecorded r).sequence :=
    State.contain_read State.sequence (fun _ _ _ => rfl) r
  have hwhole : s.contain r = { s.contain r with
    clock := (s.contain r).clock, active := (s.contain r).active, version := (s.contain r).version,
    claim := (s.contain r).claim, rights := (s.contain r).rights, rightsLock := (s.contain r).rightsLock,
    leaseMs := (s.contain r).leaseMs, lastGranted := (s.contain r).lastGranted,
    classIntervals := (s.contain r).classIntervals, reclaimMs := (s.contain r).reclaimMs,
    sequence := (s.contain r).sequence, freeCount := (s.contain r).freeCount,
    pending := (s.contain r).pending } := rfl
  rw [hwhole]
  simp only [State.contain_clock, State.contain_active, State.contain_version, State.contain_claim,
    State.contain_rights, State.contain_rightsLock, State.contain_leaseMs, State.contain_lastGranted,
    State.contain_classIntervals, State.contain_reclaimMs, State.contain_freeCount, State.contain_pending, hseq]

/-- Settles O19: containment place by place. -/
theorem containmentCutsEverythingOff : Obligations.ContainmentCutsEverythingOff := by
  intro s r f owed v
  have hv : v = s.storageRecorded r := by
    change s.report .hub { r with kind := _, severity := _, detail := some (_, 0) } = _
    rw [State.storageRecorded, storageReport, State.endCount_eq]
    rfl
  rw [hv]
  refine ⟨State.contain_hub s r, State.contain_entry r, State.contain_target r,
    fun t => (State.contain_link_tp r t).trans (Link.handReset_eq _), State.contain_link_rp r, fun p => ?responses,
    fun p => ?port, fun p t => ?tgt, fun p => ?hub, fun p q => ?req, State.contain_bank r, State.contain_frame r⟩
  case responses =>
    have hport := congrArg RequesterPort.responses (State.contain_port (s := s) r p)
    rw [hport, State.endAnswers_eq]
    simp only [Entry.hubAnswer, hubData_eq]
    rfl
  case port =>
    have hport := State.contain_port (s := s) r p
    rw [hport]
  case tgt =>
    have hne : (Bank.tgt t).idx ≠ Bank.hub.idx := by simp
    rw [State.contain_alerts, if_neg (c := s.routed .hub p = true ∧ _) fun h => hne h.2, State.storageRecorded,
      State.report_alerts_other_bank hne]
    refine if_congr ?_ rfl rfl
    simp [State.routed_iff]
  case hub =>
    rw [State.contain_alerts, if_neg (by simp)]
    refine if_congr ?_ rfl rfl
    simp [State.routed_iff]
  case req =>
    have hne : (Bank.req q).idx ≠ Bank.hub.idx := by simp
    rw [State.contain_alerts, if_neg (by simp), if_neg fun h => hne h.2, State.storageRecorded,
      State.report_alerts_other_bank hne]

end Sys2Proof.Machine
end

section
/-! SUPPORT. The moves every command is made of. A move changes one kind of thing (the registers, the requester ports, one
target, the links, one bank) or the few that the spec changes together (an entry with its egress place, a fence, a link with
its port unit), and states of each what the invariants ask for. -/

namespace Sys2Proof.Machine

/-! ## The moves -/

/-- Queues, credits due, pending map and snapshot of a port unit are empty (R137, R148). -/
def RequesterPort.idle (u : RequesterPort) : Prop :=
  u.ingress = [] ∧ u.due = 0 ∧ u.responses = [] ∧ (∀ i, look u.alerts i = Reasons.empty) ∧ u.snapshot = none

/-- The sum of R138. -/
def RequesterPort.creditSum (u : RequesterPort) : Nat := u.ingress.length + u.reckoning + u.due

/-- Whether a place of an egress queue refers to entry `i`. -/
def Place.names (i : Fin 32) : Place → Bool
  | .entry j _ => j = i
  | .posted _ _ _ _ => false

/-- How often the egress queue of a target unit refers to entry `i`. -/
def TargetPort.refs (u : TargetPort) (i : Fin 32) : Nat := u.egress.countP (Place.names i)

/-- What a port unit may become while the entries and its link stay. -/
structure PortStep (s : State) (p : RP) (u : RequesterPort) : Prop where
  cap : u.cap = (s.port p).cap ∨ (1 ≤ u.cap ∧ u.cap ≤ 32)
  sum : u.creditSum = (s.port p).creditSum
  load : u.responses.length ≤ (s.port p).responses.length ∨
    (s.hasRoom p ∧ u.responses.length ≤ (s.port p).responses.length + 1)
  idle : (s.link (.rp p)).state ≠ .up → (s.port p).idle → u.idle

/-- What a target unit may become while the entries stay. -/
structure TargetStep (s : State) (t : TP) (u : TargetPort) : Prop where
  abandon : u.abandon = (s.target t).abandon
  refs : ∀ i, u.refs i = (s.target t).refs i
  length : u.egress.length ≤ 8 ∨ u.egress.length ≤ (s.target t).egress.length
  closed : u.state ≠ .opened →
    (s.target t).state ≠ .opened ∧ u.egress = (s.target t).egress ∧ u.credits = (s.target t).credits
  contained : s.hub = .contained → (s.target t).state = .fenced → u.state = .fenced
  up : (s.target t).state ≠ .down → u.state ≠ .down
  credits : (s.target t).credits ≤ 16 ∧ (s.target t).advertisement ≤ 16 → u.credits ≤ 16 ∧ u.advertisement ≤ 16
  limit : u.fenceLimit = (s.target t).fenceLimit ∨ (1 ≤ u.fenceLimit ∧ u.fenceLimit ≤ 15)

/-- What a bank may become under the command `c`. -/
structure BankStep (c : Instr) (k k' : BankState) : Prop where
  length : k.records.length ≤ 4 → k'.records.length ≤ 4
  counter : k.counter.consistent → k'.counter.consistent
  fatal : (∀ p, c ≠ .pop p) → ∀ r ∈ k.records, r.severity = .fatal → r ∈ k'.records

/-- What a register of the decode, edit and deadline units may become under the command `c`. -/
structure RegisterMove (c : Instr) (s t : State) : Prop where
  frame : t = { s with
    active := t.active, version := t.version, claim := t.claim, rights := t.rights, rightsLock := t.rightsLock,
    leaseMs := t.leaseMs, lastGranted := t.lastGranted, classIntervals := t.classIntervals, reclaimMs := t.reclaimMs,
    sequence := t.sequence, freeCount := t.freeCount }
  lease : t.leaseMs = s.leaseMs ∨ (1 ≤ t.leaseMs ∧ t.leaseMs ≤ 1000)
  reclaim : t.reclaimMs = s.reclaimMs ∨ (1 ≤ t.reclaimMs ∧ t.reclaimMs ≤ 255)
  classes : ∀ i, look t.classIntervals i = look s.classIntervals i ∨
    (1 ≤ look t.classIntervals i ∧ look t.classIntervals i ≤ 4095)
  table : (∀ p, c ≠ .commit p) → t.active = s.active ∧ t.version = s.version
  commits : s.activeKept → t.activeKept
  lock : s.rightsLock = true → t.rightsLock = true ∧ t.rights = s.rights
  rights : (∀ p, c ≠ .rightsWrite p) → t.rights = s.rights

/-- What the port units may become while the entries and the links stay. -/
structure PortsMove (s t : State) : Prop where
  frame : t = { s with ports := t.ports }
  step : ∀ p, PortStep s p (t.port p)

/-- What the links may become while the requester port units stay: none of theirs reaches or leaves UP. -/
structure LinksMove (s t : State) : Prop where
  frame : t = { s with links := t.links }
  bounded : ∀ l, (s.link l).bounded → (t.link l).bounded
  up : ∀ p, (t.link (.rp p)).state = .up ↔ (s.link (.rp p)).state = .up

/-- The targets cut off, the entries that `sel` selects ended, and the hub state (R121, R130). -/
def State.cutOffWhere (s : State) (hub : HubState) (cut : TP → Bool) (sel : Entry → Bool) (st : Status) : State :=
  { s.endEntries sel st with
    hub, targets := tab fun t => if cut t then (s.target t).cutOff else s.target t }

/-- One move of the command `c`. -/
inductive Move (c : Instr) : State → State → Prop
  /-- COLD_RESET. -/
  | coldReset {s : State} (hc : c = .coldReset) :
    Move c s { State.reset with freeCount := s.freeCount, pending := s.pending }
  /-- WARM_RESET. -/
  | warmReset {s : State} (hc : c = .warmReset) :
    Move c s { State.reset with
      clock := s.clock, banks := tab fun i => (look s.banks i).overWarmReset s.clock, sequence := s.sequence,
      freeCount := s.freeCount, pending := s.pending }
  /-- A change of registers. -/
  | registers {s t : State} (h : RegisterMove c s t) : Move c s t
  /-- A change of port units. -/
  | ports {s t : State} (h : PortsMove s t) : Move c s t
  /-- A change of one target unit. -/
  | target {s : State} (t : TP) (u : TargetPort) (h : TargetStep s t u) : Move c s (s.setTarget t u)
  /-- A change of links. -/
  | links {s t : State} (h : LinksMove s t) : Move c s t
  /-- A change of one bank. -/
  | bank {s : State} (b : Bank) (k : BankState) (h : BankStep c (s.bank b) k) : Move c s (s.setBank b k)
  /-- The send of a LINK RESET takes the link DOWN (R155). -/
  | linkReset {s : State} (l : LinkId) (k : Link) (hc : c = .linkResetSend l) (hk : (s.link l).bounded → k.bounded)
      (hdown : k.state ≠ .up) : Move c s (s.setLink l k)
  /-- A requester link and its port unit at link UP (R137, R150, R154). -/
  | requesterUp {s : State} (p : RP) (k : Link) (u : RequesterPort) (hk : (s.link (.rp p)).bounded → k.bounded)
      (hup : k.state = .up) (hu : u.creditSum = 8) (hresponses : u.responses = []) (hcap : u.cap = (s.port p).cap) :
    Move c s ((s.setLink (.rp p) k).setPort p u)
  /-- A requester link and its port unit at a loss (R148, R162). -/
  | requesterDown {s : State} (p : RP) (k : Link) (hk : (s.link (.rp p)).bounded → k.bounded) (hdown : k.state ≠ .up) :
    Move c s ((s.setLink (.rp p) k).discardPort p)
  /-- A grant fills a FREE entry and queues it (R44). -/
  | queue {s : State} (p : RP) (t : TP) (i : Fin 32) (cls : Fin 4) (kind : MemKind) (tag : Tag) (a : Address) (n : Nat)
      (data : List Byte) (hfree : (s.entry i).state = .free) (hopen : (s.target t).state = .opened)
      (hlength : (s.target t).egress.length < 8) (hroom : s.hasRoom p) (hhead : (s.port p).ingress ≠ []) :
    Move c s ((s.setEntry i ((s.entry i).granted p t cls kind tag a n)).enqueue t (.entry i data))
  /-- A send makes the entry at the head of an egress queue ISSUED (R50). -/
  | issue {s : State} (t : TP) (i : Fin 32) (data : List Byte) (rest : List Place) (d : Nat)
      (hegress : (s.target t).egress = .entry i data :: rest) :
    Move c s ((s.setEntry i { s.entry i with state := .issued, deadline := some d }).setTarget t
      { s.target t with egress := rest, credits := (s.target t).credits - 1 })
  /-- A stage 1 expiry (R67). -/
  | late {s : State} (i : Fin 32) (d : Nat) (hissued : (s.entry i).state = .issued) :
    Move c s (s.setEntry i { s.entry i with state := .late, deadline := some d })
  /-- A stage 2 expiry (R68, R69). -/
  | abandon {s : State} (i : Fin 32) (t : TP) (d : Nat) (a : Answer) (hlate : (s.entry i).state = .late)
      (htarget : (s.entry i).target = some t) :
    Move c s (((s.setEntry i { s.entry i with state := .abandoned, deadline := some d }).placeFor (s.entry i) a).setTarget t
      { s.target t with abandon := (s.target t).abandon + 1 })
  /-- A completion frees its entry with an answer (R53). -/
  | complete {s : State} (i : Fin 32) (a : Answer) (hstate : (s.entry i).state = .issued ∨ (s.entry i).state = .late) :
    Move c s ((s.placeFor (s.entry i) a).setEntry i (s.entry i).freed)
  /-- An ABANDONED entry returns to FREE (R56, R70). -/
  | reclaim {s : State} (i : Fin 32) (t : TP) (habandoned : (s.entry i).state = .abandoned)
      (htarget : (s.entry i).target = some t) :
    Move c s ((s.setEntry i (s.entry i).freed).lowerAbandon t)
  /-- A fence, or the cutting off of everything (R121, R130). -/
  | cutOff {s : State} (hub : HubState) (cut : TP → Bool) (sel : Entry → Bool) (st : Status)
      (hsel : ∀ i t, (s.entry i).target = some t → (sel (s.entry i) = true ↔ cut t = true))
      (hhub : hub = s.hub ∨ (hub = .contained ∧ ∀ t, cut t = true)) :
    Move c s (s.cutOffWhere hub cut sel st)

/-- The moves of a command, in their order. -/
abbrev Moves (c : Instr) : State → State → Prop := Relation.ReflTransGen (Move c)

theorem Moves.refl {c : Instr} {s : State} : Moves c s s := Relation.ReflTransGen.refl

theorem Move.moves {c : Instr} {s t : State} (h : Move c s t) : Moves c s t := Relation.ReflTransGen.single h

/-- What every move of a command keeps, the command keeps. -/
theorem Moves.keeps {c : Instr} {s t : State} {P : State → Prop} (h : Moves c s t)
    (hP : ∀ u v, Move c u v → P u → P v) (hs : P s) : P t := by
  induction h with
  | refl => exact hs
  | tail _ hmove ih => exact hP _ _ hmove ih

/-! ## One port, one link -/

section Steps

variable {c : Instr} {s t : State} {p : RP} {l : LinkId}

theorem PortStep.refl (s : State) (p : RP) : PortStep s p (s.port p) :=
  ⟨.inl rfl, rfl, .inl le_rfl, fun _ h => h⟩

/-- A port unit that differs in what no invariant asks for. -/
theorem PortStep.of_eq {u : RequesterPort} (hingress : u.ingress = (s.port p).ingress)
    (hreckoning : u.reckoning = (s.port p).reckoning) (hdue : u.due = (s.port p).due)
    (hresponses : u.responses = (s.port p).responses) (halerts : u.alerts = (s.port p).alerts)
    (hsnapshot : u.snapshot = (s.port p).snapshot) (hcap : u.cap = (s.port p).cap) : PortStep s p u where
  cap := .inl hcap
  sum := by rw [RequesterPort.creditSum, hingress, hreckoning, hdue, RequesterPort.creditSum]
  load := .inl (by rw [hresponses])
  idle _ h := by
    rw [RequesterPort.idle, hingress, hdue, hresponses, halerts, hsnapshot]
    exact h

/-- The port with a head is not idle. -/
theorem not_idle_of_ingress {u : RequesterPort} (h : u.ingress ≠ []) : ¬u.idle := fun hidle => h hidle.1

theorem Move.port {u : RequesterPort} (h : PortStep s p u) : Move c s (s.setPort p u) := by
  refine .ports ⟨rfl, fun q => ?_⟩
  by_cases hq : p = q
  · subst hq
    rw [State.port_setPort_same]
    exact h
  · rw [State.port_setPort_ne _ _ hq]
    exact PortStep.refl s q

/-- What a link may become while its requester port unit stays. -/
structure LinkStep (k k' : Link) : Prop where
  bounded : k.bounded → k'.bounded
  up : k'.state = .up ↔ k.state = .up

theorem Move.link {k : Link} (h : LinkStep (s.link l) k) : Move c s (s.setLink l k) := by
  refine .links ⟨rfl, fun m hm => ?_, fun p => ?_⟩
  · by_cases hlm : l = m
    · subst hlm
      rw [State.link_setLink_same]
      exact h.bounded hm
    · rwa [State.link_setLink_ne _ _ hlm]
  · by_cases hlp : l = .rp p
    · subst hlp
      rw [State.link_setLink_same]
      exact h.up
    · rw [State.link_setLink_ne _ _ hlp]

theorem Move.modLink {f : Link → Link} (h : LinkStep (s.link l) (f (s.link l))) : Move c s (s.modLink l f) := Move.link h

/-- The link of a target may reach and leave UP by itself. -/
theorem Move.targetLink {t : TP} {k : Link} (h : (s.link (.tp t)).bounded → k.bounded) : Move c s (s.setLink (.tp t) k) := by
  refine .links ⟨rfl, fun m hm => ?_, fun p => ?_⟩
  · by_cases hlm : LinkId.tp t = m
    · subst hlm
      rw [State.link_setLink_same]
      exact h hm
    · rwa [State.link_setLink_ne _ _ hlm]
  · rw [State.link_setLink_ne _ _ (by simp)]

end Steps

/-! ## Offers, reasons and records -/

section Reports

variable {c : Instr} {s : State} {b : Bank}

theorem State.offerAll_moves : Moves c s s.offerAll := by
  refine (Move.ports ⟨rfl, fun p => ?_⟩).moves
  rw [State.port_offerAll]
  exact .of_eq rfl rfl rfl rfl rfl rfl rfl

theorem State.offerPort_moves (p : RP) : Moves c s (s.offerPort p) :=
  Move.moves (Move.port (.of_eq rfl rfl rfl rfl rfl rfl rfl))

/-- The registers that no invariant and no rule of O60 asks for. -/
theorem RegisterMove.quiet (s : State) (claim : Option Claim) (lastGranted : RP) (sequence : BitVec 16) (freeCount : Nat) :
    RegisterMove c s { s with claim, lastGranted, sequence, freeCount } :=
  ⟨rfl, .inl rfl, .inl rfl, fun _ => .inl rfl, fun _ => ⟨rfl, rfl⟩, fun h => h, fun h => ⟨h, rfl⟩, fun _ => rfl⟩

/-- R110: a reason reaches no port whose link is not UP. -/
theorem State.raise_moves (x : Reason) : Moves c s (s.raise b x) := by
  refine (Move.ports ⟨rfl, fun p => ⟨.inl (by simp), ?_, .inl (by simp), fun hdown hidle => ?_⟩⟩).moves
  · simp [RequesterPort.creditSum]
  · have hskip : s.routed b p = false := by simp [State.routed, hdown]
    rwa [State.raise_port_skipped s x hskip]

/-- R100, R102: the offer of a record keeps a counter consistent. -/
theorem Counter.offer_consistent {k : Counter} (severity : Severity) (h : k.consistent) : (k.offer severity).consistent := by
  obtain ⟨hle, htripped, hrest⟩ := h
  rw [Counter.offer]
  split
  · next hcond =>
    have hnot : k.tripped ≠ true := by
      simp only [Bool.and_eq_true, Bool.not_eq_true'] at hcond
      simp [hcond.2]
    have hne : k.count ≠ k.threshold := mt htripped.mpr hnot
    exact ⟨Nat.lt_of_le_of_ne hle hne, by simp, hrest⟩
  · exact ⟨hle, htripped, hrest⟩

/-- R85: the record of a report, before any reason. -/
theorem State.recorded_moves (r : Report) : Moves c s (s.recorded b r) := by
  have hsequence : Moves c s { s with sequence := s.sequence + 1 } :=
    (Move.registers (.quiet s s.claim s.lastGranted (s.sequence + 1) s.freeCount)).moves
  refine hsequence.tail (Move.bank b _ ⟨fun h => fullBank_length_le _ h, Counter.offer_consistent r.severity,
    fun _ x hx hfatal => mem_fullBank_of_fatal _ hx hfatal⟩)

theorem State.report_moves (r : Report) : Moves c s (s.report b r) := by
  rcases s.report_cases b r with h | h | h | h | h <;> rw [h]
  · exact State.recorded_moves r
  · exact (State.recorded_moves r).trans (State.raise_moves _)
  · exact (State.recorded_moves r).trans (State.raise_moves _)
  · exact ((State.recorded_moves r).trans (State.raise_moves _)).trans (State.raise_moves _)

end Reports

/-! ## Fences, containment and losses -/

section Cutoff

variable {c : Instr} {s : State} {t : TP}

theorem Link.handReset_step (k : Link) : LinkStep k k.handReset := by
  rw [Link.handReset]
  split
  · exact ⟨id, Iff.rfl⟩
  · exact ⟨id, Iff.rfl⟩

theorem State.fence_cutOff :
    (s.endEntries (ofTarget t) .fenced).setTarget t ((s.endEntries (ofTarget t) .fenced).target t).cutOff =
      s.cutOffWhere s.hub (fun u => u = t) (ofTarget t) .fenced := by
  have htargets : upd s.targets t (s.target t).cutOff =
      tab fun u => if decide (u = t) then (s.target u).cutOff else s.target u := by
    rw [upd_eq_tab]
    refine congrArg tab (funext fun u => ?_)
    by_cases hu : t = u
    · subst hu; simp
    · simp [hu, Ne.symm hu, State.target]
  simp only [State.setTarget, State.cutOffWhere, State.endEntries_target, State.endEntries_targets, htargets,
    State.endEntries_hub]

theorem State.fence_moves : Moves c s (s.fence t) := by
  simp only [State.fence, State.fence_cutOff]
  refine ((Moves.refl.tail (.cutOff _ _ _ _ (fun i u hu => ?_) (.inl rfl))).tail
    (Move.modLink (Link.handReset_step _))).trans ((State.raise_moves _).trans State.offerAll_moves)
  simp [ofTarget, hu]

theorem State.fenceFor_moves (r : Report) : Moves c s (s.fenceFor t r) :=
  (State.report_moves _).trans State.fence_moves

theorem State.raiseFences_moves (v : State) (l : List TP) : Moves c v (s.raiseFences v l) := by
  induction l generalizing v with
  | nil => exact Moves.refl
  | cons t l ih =>
    have hstep : s.raiseFences v (t :: l) =
        s.raiseFences (if (s.target t).state = .opened then v.raise (.tgt t) .fence else v) l := rfl
    rw [hstep]
    refine Relation.ReflTransGen.trans ?_ (ih _)
    split
    · exact State.raise_moves _
    · exact Moves.refl

@[simp] theorem State.cutOffWhere_link (hub : HubState) (cut : TP → Bool) (sel : Entry → Bool) (st : Status)
    (l : LinkId) : (s.cutOffWhere hub cut sel st).link l = s.link l := by
  simp only [State.cutOffWhere, State.link, State.endEntries_links]

/-- R130: the LINK RESETs of the targets follow the cutting off. -/
theorem State.cutOffAll_eq :
    s.cutOffAll = { s.cutOffWhere .contained (fun _ => true) (fun _ => true) .hubFault with links := s.cutOffAll.links } := by
  simp only [State.cutOffAll, State.cutOffWhere, State.endEntries, State.target, if_true]
  rfl

theorem State.cutOffAll_moves : Moves c s s.cutOffAll := by
  refine Moves.refl.tail (.cutOff .contained (fun _ => true) (fun _ => true) .hubFault (fun _ _ _ => Iff.rfl)
    (.inr ⟨rfl, fun _ => rfl⟩)) |>.tail (.links ⟨State.cutOffAll_eq, fun l hl => ?_, fun p => ?_⟩)
  · rw [State.cutOffWhere_link] at hl
    rw [State.cutOffAll_link]
    split
    · exact (Link.handReset_step _).bounded hl
    · exact hl
  · rw [State.cutOffWhere_link, State.cutOffAll_link, if_neg (by simp [LinkId.idx])]

theorem State.contain_moves (r : Report) : Moves c s (s.contain r) := by
  rw [State.contain_eq]
  exact (State.report_moves _).trans
    (State.cutOffAll_moves.trans ((State.raise_moves _).trans (State.raiseFences_moves _ _)))

theorem State.storageCheck_moves (r : Report) : Moves c s (s.storageCheck r) := by
  rw [State.storageCheck]
  split
  · exact State.contain_moves _
  · exact State.report_moves _

/-- A change of the claim alone. -/
theorem State.claim_moves (x : Option Claim) : Moves c s { s with claim := x } :=
  (Move.registers (.quiet s x s.lastGranted s.sequence s.freeCount)).moves

theorem State.targetLoss_moves : Moves c s (s.targetLoss t) := by
  rw [State.targetLoss]
  split
  · exact State.fenceFor_moves _
  · exact State.report_moves _
  · exact Moves.refl

/-- R148 steps 6 and 7, and R31. -/
theorem State.requesterLoss_moves {u : State} (p : RP) (h : Moves c u (s.discardPort p)) :
    Moves c u (s.requesterLoss p) := by
  rw [State.requesterLoss]
  have hreport := h.trans (State.report_moves (b := .req p)
    { kind := .requesterLinkLoss, severity := if s.lossCosts p then .uncorrected else .corrected, port := some p })
  split
  · exact hreport.trans ((State.claim_moves none).trans (State.report_moves _))
  · exact hreport

/-- R152: a link that is DOWN with its buffer emptied is within its bounds. -/
theorem Link.goDown_bounded {k : Link} (pending : Bool) (h : k.bounded) :
    Link.bounded { k.goDown with resetPending := pending } := by
  obtain ⟨-, hcount, -, -⟩ := h
  exact ⟨Nat.zero_le _, hcount, nofun, by simp [Link.goDown]⟩

/-- A loss of a link with what its port unit takes of it (R148, R156, R162). -/
theorem State.takeLoss_moves (l : LinkId) (pending : Bool) :
    Moves c s ((s.modLink l fun k => { k.goDown with resetPending := pending }).takeLoss l) := by
  cases l with
  | rp p =>
    exact State.requesterLoss_moves p (Move.requesterDown p _ (Link.goDown_bounded pending) (by simp [Link.goDown])).moves
  | tp t =>
    exact (Move.targetLink (Link.goDown_bounded pending)).moves.trans State.targetLoss_moves

theorem State.loseLink_moves (l : LinkId) : Moves c s (s.loseLink l) := State.takeLoss_moves l true

theorem State.resetByPartner_moves (l : LinkId) : Moves c s (s.resetByPartner l) := State.takeLoss_moves l false

end Cutoff

end Sys2Proof.Machine
end

section
/-! SUPPORT. The moves of the request path: arrivals, offers, grants, sends, credits, responses and expiries; with the
readiness of a head and the rotation among ready heads (R42, R43). Settles O9. -/

namespace Sys2Proof.Machine

variable {c : Instr} {s : State} {p : RP} {t : TP}

/-! ## Readiness and rotation -/

theorem State.firstFree_isSome : s.firstFree.isSome = true ↔ ∃ i, (s.entry i).state = .free := by
  simp [State.firstFree, List.find?_isSome]

/-- R42: what makes a head ready. -/
theorem State.ready_iff :
    s.ready p = true ↔
      s.hub = .normal ∧ ∃ t cls, (s.port p).outcome = some (t, cls) ∧ (s.target t).state = .opened ∧
        (s.target t).egress.length < 8 ∧
        ((∃ kind tag a n d, s.atHead p (.mem kind tag a n d) ∧ (∃ i, (s.entry i).state = .free) ∧
            s.heldCount p < (s.port p).cap ∧ s.hasRoom p) ∨
          ∃ a n d, s.atHead p (.posted a n d)) := by
  rw [State.ready, Bool.and_eq_true, decide_eq_true_iff]
  refine and_congr_right fun _ => ?_
  cases hout : (s.port p).outcome with
  | none => simp
  | some x =>
    obtain ⟨t, cls⟩ := x
    cases hhead : (s.port p).ingress.head? with
    | none => simp [hhead]
    | some item =>
      cases item with
      | mem kind tag a n d =>
        simp [State.egressReady, State.firstFree_isSome, State.room_iff, State.atHead, hhead, and_assoc]
      | posted a n d => simp [State.egressReady, State.atHead, hhead]
      | configRead tag number => simp [hhead]
      | configWrite tag number data => simp [hhead]
      | refusal tag => simp [hhead]

/-- R43: the rotation visits the ports in the order of their distance from the port after the last granted one. -/
theorem State.grantee_eq :
    s.grantee = ((List.finRange 4).find? fun k => s.ready (s.lastGranted + 1 + k)).map fun k => s.lastGranted + 1 + k := by
  have hlist : ∀ l : RP, [l + 1, l + 2, l + 3, l] = (List.finRange 4).map fun k => l + 1 + k := by decide
  rw [State.grantee, hlist, List.find?_map]
  rfl

theorem State.grantee_eq_some :
    s.grantee = some p ↔
      s.ready p = true ∧ ∀ q : RP, q - (s.lastGranted + 1) < p - (s.lastGranted + 1) → s.ready q = false := by
  have hback : ∀ q : RP, s.lastGranted + 1 + (q - (s.lastGranted + 1)) = q := fun q => add_sub_cancel _ q
  rw [State.grantee_eq, Option.map_eq_some_iff, ← Fin.find?_eq_find?_finRange]
  constructor
  · rintro ⟨k, hk, rfl⟩
    obtain ⟨hready, hlow⟩ := Fin.find?_eq_some_iff.mp hk
    refine ⟨hready, fun q hq => ?_⟩
    rw [add_sub_cancel_left] at hq
    simpa [hback] using hlow _ hq
  · rintro ⟨hready, hlow⟩
    refine ⟨p - (s.lastGranted + 1), Fin.find?_eq_some_iff.mpr ⟨by simpa [hback] using hready, fun k hk => ?_⟩, hback p⟩
    simpa using hlow (s.lastGranted + 1 + k) (by rwa [add_sub_cancel_left])

theorem State.grantee_eq_none : s.grantee = none ↔ ∀ p, s.ready p = false := by
  rw [State.grantee_eq, Option.map_eq_none_iff, List.find?_eq_none]
  refine ⟨fun h p => ?_, fun h k _ => by simp [h]⟩
  have hp := h (p - (s.lastGranted + 1)) (List.mem_finRange _)
  rwa [add_sub_cancel, Bool.not_eq_true] at hp

/-- Settles O9: a head is ready by R42's list, and the rotation finds the first ready one or none. -/
theorem grantGoesToTheFirstReadyHeadInRotation : Obligations.GrantGoesToTheFirstReadyHeadInRotation :=
  fun _ => ⟨fun _ => State.ready_iff, fun _ => State.grantee_eq_some, State.grantee_eq_none⟩

/-! ## What the service of a head leaves of its port -/

/-- What an effect of the command `c` leaves of port `p`, whose head is being served: the head, the credits due, and its
answers with those of a fence or a containment behind them. -/
structure Effect (c : Instr) (p : RP) (s v : State) : Prop where
  moves : Moves c s v
  ingress : (v.port p).ingress = (s.port p).ingress
  due : (v.port p).due = (s.port p).due
  responses : ∃ ended, (v.port p).responses = (s.port p).responses ++ ended ∧
    (c ≠ .fence p → v.hub = s.hub → ended = [])
  load : (v.port p).responses.length + v.heldCount p ≤ (s.port p).responses.length + s.heldCount p

/-- An effect that changes neither the queues of the port nor any entry. -/
theorem Effect.quiet {v : State} (hmoves : Moves c s v) (hingress : (v.port p).ingress = (s.port p).ingress)
    (hdue : (v.port p).due = (s.port p).due) (hresponses : (v.port p).responses = (s.port p).responses)
    (hentries : v.entries = s.entries) : Effect c p s v :=
  ⟨hmoves, hingress, hdue, ⟨[], by simp [hresponses], fun _ _ => rfl⟩,
    by rw [hresponses, State.heldCount_congr hentries]⟩

theorem Effect.refl : Effect c p s s := .quiet Moves.refl rfl rfl rfl rfl

theorem Effect.report (b : Bank) (r : Report) : Effect c p s (s.report b r) :=
  .quiet (State.report_moves r) (by simp) (by simp) (by simp) (by simp)

theorem Effect.contain (r : Report) (hn : s.hub = .normal) : Effect c p s (s.contain r) where
  moves := State.contain_moves r
  ingress := by rw [State.contain_port]
  due := by rw [State.contain_port]
  responses := ⟨s.endAnswers (fun _ => true) .hubFault p, by rw [State.contain_port],
    fun _ h => by rw [State.contain_hub, hn] at h; cases h⟩
  load := State.contain_load_le r p

theorem Effect.storageCheck (r : Report) : Effect c p s (s.storageCheck r) := by
  rw [State.storageCheck]
  split
  · next hn => exact .contain r hn
  · exact .report .hub _

/-- The room for an answer stays while the effect of its request is had (R125, R144). -/
theorem Effect.hasRoom {v : State} (h : Effect c p s v) (hroom : s.hasRoom p) : v.hasRoom p :=
  Nat.lt_of_le_of_lt h.load hroom

/-! ## Heads that leave -/

theorem ne_nil_of_atHead {x : Item} (h : s.atHead p x) : (s.port p).ingress ≠ [] := by
  intro hnil
  simp [State.atHead, hnil] at h

/-- R138: the place of a head that leaves becomes a credit due. -/
theorem PortStep.withoutHead {answers : List Answer} (hhead : (s.port p).ingress ≠ [])
    (h : answers = [] ∨ (s.hasRoom p ∧ answers.length = 1)) : PortStep s p ((s.port p).withoutHead answers) where
  cap := .inl rfl
  sum := by
    have := List.length_pos_iff.mpr hhead
    simp only [RequesterPort.creditSum, RequesterPort.withoutHead, List.length_tail]
    omega
  load := by
    rcases h with rfl | ⟨hroom, hone⟩
    · exact .inl (by simp [RequesterPort.withoutHead])
    · exact .inr ⟨hroom, by simp [RequesterPort.withoutHead, hone]⟩
  idle _ hidle := absurd hidle (not_idle_of_ingress hhead)

theorem State.answered_moves (hroom : s.hasRoom p) (hhead : (s.port p).ingress ≠ []) (tag : Tag) (status : Status)
    (data : List Byte) : Moves c s (s.answered p tag status data) :=
  (Move.port (PortStep.withoutHead hhead (.inr ⟨hroom, rfl⟩))).moves

theorem State.discarded_moves (hhead : (s.port p).ingress ≠ []) : Moves c s (s.discarded p) :=
  (Move.port (PortStep.withoutHead hhead (.inl rfl))).moves

theorem State.answerHead_moves (hroom : s.hasRoom p) (hhead : (s.port p).ingress ≠ []) (a : Answer) :
    Moves c s (s.answerHead p a) := by
  rw [State.answerHead_eq]
  exact State.answered_moves hroom hhead _ _ _

theorem State.leaveHead_moves (hhead : (s.port p).ingress ≠ []) : Moves c s (s.leaveHead p) := by
  rw [State.leaveHead_eq]
  exact State.discarded_moves hhead

/-! ## Arrival -/

/-- R142: an item that joins the queue takes the place its credit stood for. -/
theorem PortStep.push (hup : (s.link (.rp p)).state = .up) (hcredit : (s.port p).reckoning ≠ 0) (i : Item) :
    PortStep s p (RequesterPort.push { s.port p with reckoning := (s.port p).reckoning - 1 } i) where
  cap := .inl rfl
  sum := by
    simp only [RequesterPort.creditSum, RequesterPort.push, List.length_append, List.length_singleton]
    omega
  load := .inl le_rfl
  idle hdown := absurd hup hdown

/-- R140, R141: the credit of a REQUEST that joins no queue becomes due. -/
theorem PortStep.refund (hup : (s.link (.rp p)).state = .up) (hcredit : (s.port p).reckoning ≠ 0) :
    PortStep s p { s.port p with reckoning := (s.port p).reckoning - 1, due := (s.port p).due + 1 } where
  cap := .inl rfl
  sum := by
    simp only [RequesterPort.creditSum]
    omega
  load := .inl le_rfl
  idle hdown := absurd hup hdown

theorem State.arrive_moves (hup : (s.link (.rp p)).state = .up) (r : RawRequest) : Moves c s (s.arrive p r) := by
  simp only [State.arrive]
  split
  · exact State.report_moves _
  · next hcredit =>
    have hpush i := (Move.port (c := c) (PortStep.push hup hcredit i)).moves
    have hrefund := (Move.port (c := c) (PortStep.refund hup hcredit)).moves
    split
    · split
      · exact (hpush _).trans (State.report_moves _)
      · exact hrefund.trans (State.report_moves _)
    · split
      · exact hrefund.trans (State.report_moves _)
      · exact hpush _

theorem execRequestArrival_moves (r : RawRequest) {v : State} (h : execRequestArrival p r s = .next v) : Moves c s v := by
  obtain rfl := Host.Outcome.next.inj h
  split
  · next hup => exact State.arrive_moves hup r
  · exact Moves.refl

/-! ## Offers and heads -/

theorem State.holdOutcome_moves (o : Option (TP × Fin 4)) : Moves c s (s.holdOutcome p o) :=
  Move.moves (Move.port (.of_eq rfl rfl rfl rfl rfl rfl rfl))

theorem State.holdOutcome_port (o : Option (TP × Fin 4)) :
    (s.holdOutcome p o).port p = { s.port p with outcome := o, offerDue := false } := by
  simp [State.holdOutcome]

theorem State.holdOutcome_hasRoom (o : Option (TP × Fin 4)) (h : s.hasRoom p) : (s.holdOutcome p o).hasRoom p := by
  rw [State.hasRoom, State.holdOutcome_port]
  exact h

theorem State.reportIf_moves (b : Bank) (r : Option Report) : Moves c s (s.reportIf b r) := by
  cases r with
  | none => exact Moves.refl
  | some r => exact State.report_moves r

theorem State.offerMem_moves (hhead : (s.port p).ingress ≠ []) (kind : MemKind) (tag : Tag) (a : Address) (n : Nat) :
    Moves c s (s.offerMem p kind tag a n) := by
  have hheld : ((s.holdOutcome p none).port p).ingress ≠ [] := by rwa [State.holdOutcome_port]
  simp only [State.offerMem]
  split
  · have hcheck : Effect c p (s.holdOutcome p none) _ := Effect.storageCheck
      { kind := .storageCheck, severity := .fatal, port := some p, tag := some tag, address := some a }
    have hmoves := (State.holdOutcome_moves (p := p) none).trans hcheck.moves
    split
    · next hroom =>
      have hroom' := hcheck.hasRoom (State.holdOutcome_hasRoom none ((State.room_iff p).mp hroom))
      exact hmoves.trans (State.answerHead_moves hroom' (by rwa [hcheck.ingress]) _)
    · exact hmoves
  · split
    · exact State.holdOutcome_moves _
    · split
      · next hroom =>
        exact (State.answerHead_moves ((State.room_iff p).mp hroom) hhead _).trans (State.reportIf_moves _ _)
      · exact State.holdOutcome_moves _

theorem State.offerPosted_moves (hhead : (s.port p).ingress ≠ []) (a : Address) (n : Nat) :
    Moves c s (s.offerPosted p a n) := by
  have hheld : ((s.holdOutcome p none).port p).ingress ≠ [] := by rwa [State.holdOutcome_port]
  simp only [State.offerPosted]
  split
  · have hcheck : Effect c p (s.holdOutcome p none) _ := Effect.storageCheck
      { kind := .storageCheck, severity := .fatal, port := some p, address := some a }
    exact ((State.holdOutcome_moves none).trans hcheck.moves).trans (State.leaveHead_moves (by rwa [hcheck.ingress]))
  · split
    · exact State.holdOutcome_moves _
    · exact (State.leaveHead_moves hhead).trans (State.reportIf_moves _ _)

theorem execOffer_moves {v : State} (h : execOffer p s = .next v) : Moves c s v := by
  obtain rfl := Host.Outcome.next.inj h
  split
  · split
    · next hhead => exact State.offerMem_moves (ne_nil_of_atHead hhead) _ _ _ _
    · next hhead => exact State.offerPosted_moves (ne_nil_of_atHead hhead) _ _
    · exact Moves.refl
  · exact Moves.refl

theorem execContainedHeadHandling_moves {v : State} (h : execContainedHeadHandling p s = .next v) : Moves c s v := by
  obtain rfl := Host.Outcome.next.inj h
  split
  · split
    · next hhead =>
      split
      · next hroom => exact State.answerHead_moves ((State.room_iff p).mp hroom) (ne_nil_of_atHead hhead) _
      · exact Moves.refl
    · next hhead => exact State.leaveHead_moves (ne_nil_of_atHead hhead)
    · exact Moves.refl
  · exact Moves.refl

theorem execRefusalPlaceAnswer_moves {v : State} (h : execRefusalPlaceAnswer p s = .next v) : Moves c s v := by
  obtain rfl := Host.Outcome.next.inj h
  split
  · next hhead =>
    split
    · next hroom => exact State.answerHead_moves ((State.room_iff p).mp hroom) (ne_nil_of_atHead hhead) _
    · exact Moves.refl
  · exact Moves.refl

/-! ## Grants -/

/-- The head that a grant takes leaves its queue, and the rotation moves on (R43, R44, R45). -/
theorem State.granted_moves {u : State} (hmoves : Moves c s u) (hhead : (u.port p).ingress ≠ []) :
    Moves c s { u.leaveHead p with lastGranted := p } :=
  (hmoves.trans (State.leaveHead_moves hhead)).tail (.registers (.quiet _ _ _ _ _))

theorem execGrant_moves {v : State} (h : execGrant s = .next v) : Moves c s v := by
  obtain rfl := Host.Outcome.next.inj h
  split
  · next p hgrant =>
    split
    · next t cls kind tag a n data i hout hhead hfree =>
      obtain ⟨-, t', cls', hout', hopen, hlength, hkind⟩ := State.ready_iff.mp (State.ready_of_grantee hgrant)
      obtain ⟨rfl, rfl⟩ : t = t' ∧ cls = cls' := by simpa [hout] using hout'
      have hroom : s.hasRoom p := by
        rcases hkind with ⟨_, _, _, _, _, -, -, -, hroom⟩ | ⟨_, _, _, hposted⟩
        · exact hroom
        · simp [State.atHead, hhead] at hposted
      have hfree' : (s.entry i).state = .free := by simpa using List.find?_some hfree
      exact State.granted_moves (Move.queue p t i cls kind tag a n data hfree' hopen hlength hroom
        (ne_nil_of_atHead hhead)).moves (ne_nil_of_atHead hhead)
    · exact Moves.refl
  · exact Moves.refl

theorem Place.names_posted (i : Fin 32) (a : Address) (n : Nat) (d : List Byte) (o : RP) :
    Place.names i (.posted a n d o) = false := rfl

theorem execPostedWriteGrant_moves {v : State} (h : execPostedWriteGrant s = .next v) : Moves c s v := by
  obtain rfl := Host.Outcome.next.inj h
  split
  · next p hgrant =>
    split
    · next t cls a n data hout hhead =>
      obtain ⟨-, t', cls', hout', hopen, hlength, -⟩ := State.ready_iff.mp (State.ready_of_grantee hgrant)
      obtain ⟨rfl, rfl⟩ : t = t' ∧ cls = cls' := by simpa [hout] using hout'
      have hstep : TargetStep s t { s.target t with egress := (s.target t).egress ++ [.posted a n data p] } :=
        ⟨rfl, fun i => by simp [TargetPort.refs, Place.names_posted], .inl (by simpa using hlength), absurd hopen,
          fun _ h => h, id, id, .inl rfl⟩
      exact State.granted_moves (Move.target t _ hstep).moves (ne_nil_of_atHead hhead)
    · exact Moves.refl
  · exact Moves.refl

/-! ## Sends and credits -/

/-- R159: the frames handed go out without a change of the link's bounds. -/
theorem Link.flush_step (k : Link) (now : Nat) : LinkStep k (k.flush now) := by
  refine ⟨fun ⟨hreplay, hcount, hnak, hsilence⟩ => ⟨hreplay, hcount, ?_, hsilence⟩, Iff.rfl⟩
  dsimp only [Link.flush]
  split
  · intro n hn
    obtain ⟨m, hm, rfl⟩ := Option.map_eq_some_iff.mp hn
    exact hnak m hm
  · exact hnak

theorem Link.emit_step (k : Link) (now : Nat) (frames : List Frame) : LinkStep k (k.emit now frames) :=
  ⟨fun h => (Link.flush_step k now).bounded h, Iff.rfl⟩

theorem Link.canTake_iff {k : Link} :
    k.canTake = true ↔ k.state = .up ∧ k.confirmed = true ∧ k.resetPending = false ∧ k.replay.length < 64 := by
  simp [Link.canTake, and_assoc]

/-- R157: a link that can take a packet has a place left in its replay buffer. -/
theorem Link.sendPacket_step {k : Link} (h : k.canTake = true) (now : Nat) (kind : PacketKind) (payload : List Byte) :
    LinkStep k (k.sendPacket now kind payload) := by
  obtain ⟨-, -, -, hroom⟩ := Link.canTake_iff.mp h
  refine ⟨fun hk => ?_, Iff.rfl⟩
  obtain ⟨-, hcount, hnak, hsilence⟩ := (Link.flush_step k now).bounded hk
  exact ⟨by simpa [Link.sendPacket] using hroom, hcount, hnak, hsilence⟩

theorem State.sendPacket_moves {l : LinkId} (h : (s.link l).canTake = true) (kind : PacketKind) (payload : List Byte) :
    Moves c s (s.sendPacket l kind payload) :=
  (Move.modLink (Link.sendPacket_step h _ _ _)).moves

theorem State.maySend_iff :
    s.maySend t = true ↔ (s.target t).state = .opened ∧ 0 < (s.target t).credits ∧ (s.link (.tp t)).canTake = true := by
  simp [State.maySend, and_assoc]

theorem execSend_moves {v : State} (h : execSend t s = .next v) : Moves c s v := by
  obtain rfl := Host.Outcome.next.inj h
  split
  · next hmay =>
    obtain ⟨-, -, htake⟩ := State.maySend_iff.mp hmay
    split
    · next i data hhead =>
      dsimp only
      split
      · exact State.storageCheck_moves _
      · have hegress : (s.target t).egress = .entry i data :: (s.target t).egress.tail :=
          (List.eq_cons_of_mem_head? hhead)
        exact ((State.sendPacket_moves htake .request ((s.entry i).requestPayload i data)).tail
          (Move.issue t i data _ (s.clock + s.classMicros (s.entry i).cls) hegress)).trans State.offerAll_moves
    · exact Moves.refl
  · exact Moves.refl

theorem execPostedWriteSend_moves {v : State} (h : execPostedWriteSend t s = .next v) : Moves c s v := by
  obtain rfl := Host.Outcome.next.inj h
  split
  · next hmay =>
    obtain ⟨hopen, -, htake⟩ := State.maySend_iff.mp hmay
    split
    · next a n data origin hhead =>
      have hegress : (s.target t).egress = .posted a n data origin :: (s.target t).egress.tail :=
        (List.eq_cons_of_mem_head? hhead)
      refine ((State.sendPacket_moves htake .request (postedPayload a n data origin)).tail
        (Move.target t { s.target t with egress := (s.target t).egress.tail, credits := (s.target t).credits - 1 }
          ⟨rfl, fun i => ?_, .inr (by simp), absurd hopen, fun _ h => h, id, fun ⟨hc, ha⟩ => ⟨?_, ha⟩, .inl rfl⟩)).trans
        State.offerAll_moves
      · have hrefs := congrArg (List.countP (Place.names i)) hegress
        rw [List.countP_cons, Place.names_posted] at hrefs
        simpa [TargetPort.refs] using hrefs.symm
      · exact (Nat.sub_le _ _).trans hc
    · exact Moves.refl
  · exact Moves.refl

theorem State.takeCredit_moves (n : Nat) : Moves c s (s.takeCredit t n) := by
  rw [State.takeCredit]
  split
  · next hopen =>
    split
    · exact State.fenceFor_moves _
    · refine Move.moves (Move.target t _
        ⟨rfl, fun _ => rfl, .inr le_rfl, absurd hopen, fun _ h => h, id, fun ⟨hc, ha⟩ => ⟨?_, ha⟩, .inl rfl⟩)
      dsimp only
      omega
  · exact Moves.refl

theorem State.takeCreditPacket_moves (amount : Byte) : Moves c s (s.takeCreditPacket t amount) := by
  rw [State.takeCreditPacket]
  split
  · split
    · exact State.takeCredit_moves _
    · exact State.fenceFor_moves _
  · exact Moves.refl

theorem execCreditReturn_moves (amount : Byte) {v : State} (h : execCreditReturn t amount s = .next v) : Moves c s v := by
  obtain rfl := Host.Outcome.next.inj h
  split
  · exact State.takeCreditPacket_moves amount
  · exact Moves.refl

/-! ## Responses and expiries -/

theorem State.complete_moves {i : Fin 32} (r : Response)
    (hstate : (s.entry i).state = .issued ∨ (s.entry i).state = .late) : Moves c s (s.complete t i r) := by
  have hfreed : Moves c s ((s.placeFor (s.entry i)
      { tag := (s.entry i).tag, status := r.status.answer, data := (s.entry i).answerData r }).freeEntry i) := by
    have hentry : ∀ a, (s.placeFor (s.entry i) a).entry i = s.entry i := fun a => by
      rw [State.placeFor]
      split <;> rfl
    rw [State.freeEntry, hentry]
    exact (Move.complete i _ hstate).moves.trans State.offerAll_moves
  simp only [State.complete]
  split
  · exact hfreed
  · exact hfreed.trans (State.report_moves _)
  · exact hfreed.trans (State.report_moves _)
  · exact hfreed.trans (State.fenceFor_moves _)

theorem State.reclaimed_moves {i : Fin 32} (habandoned : (s.entry i).state = .abandoned)
    (htarget : (s.entry i).target = some t) : Moves c s ((s.freeEntry i).lowerAbandon t) :=
  (Move.reclaim i t habandoned htarget).moves.trans State.offerAll_moves

theorem State.intake_moves (r : Response) : Moves c s (s.intake t r) := by
  simp only [State.intake]
  split
  · exact State.storageCheck_moves _
  · split
    · next htarget =>
      split
      · exact State.report_moves _
      · split
        · exact State.fenceFor_moves _
        · split
          · next hstate => exact State.complete_moves r (.inl hstate)
          · next hstate => exact State.complete_moves r (.inr hstate)
          · next hstate => exact (State.reclaimed_moves hstate htarget).trans (State.report_moves _)
          · exact State.fenceFor_moves _
          · exact Moves.refl
    · exact State.fenceFor_moves _

theorem State.takeResponse_moves (r : RawResponse) : Moves c s (s.takeResponse t r) := by
  rw [State.takeResponse]
  split
  · split
    · exact State.fenceFor_moves _
    · dsimp only
      split
      · exact (State.takeCredit_moves _).trans (State.intake_moves _)
      · exact State.takeCredit_moves _
  · exact Moves.refl

theorem execResponseIntake_moves (r : RawResponse) {v : State} (h : execResponseIntake t r s = .next v) :
    Moves c s v := by
  obtain rfl := Host.Outcome.next.inj h
  split
  · exact State.takeResponse_moves r
  · exact Moves.refl

theorem execStage1Expiry_moves {i : Fin 32} {v : State} (h : execStage1Expiry i s = .next v) : Moves c s v := by
  obtain rfl := Host.Outcome.next.inj h
  split
  · next hdue =>
    split
    · exact State.storageCheck_moves _
    · split
      · have hissued : (s.entry i).state = .issued := by simpa using (Bool.and_eq_true_iff.mp hdue).1
        exact (Move.late i _ hissued).moves.trans (State.report_moves _)
      · exact Moves.refl
  · exact Moves.refl

theorem execStage2Expiry_moves {i : Fin 32} {v : State} (h : execStage2Expiry i s = .next v) : Moves c s v := by
  obtain rfl := Host.Outcome.next.inj h
  split
  · next hdue =>
    split
    · exact State.storageCheck_moves _
    · split
      · next t htarget =>
        have hlate : (s.entry i).state = .late := by simpa using (Bool.and_eq_true_iff.mp hdue).1
        have habandon := (Move.abandon (c := c) i t (s.clock + micros s.reclaimMs) ((s.entry i).hubAnswer .timedOut) hlate
          htarget).moves.trans (State.offerPort_moves (s.entry i).port)
        have hsame : ∀ e a, (((s.setEntry i e).placeFor (s.entry i) a).offerPort (s.entry i).port).target t =
            s.target t := fun e a => by
          rw [State.placeFor]
          split <;> rfl
        simp only [hsame]
        have hreport := habandon.trans (State.report_moves (b := .tgt t) ((s.entry i).about i .timedOut .uncorrected))
        split
        · exact hreport.trans (State.fenceFor_moves _)
        · exact hreport
      · exact Moves.refl
  · exact Moves.refl

theorem execReclaimExpiry_moves {i : Fin 32} {v : State} (h : execReclaimExpiry i s = .next v) : Moves c s v := by
  obtain rfl := Host.Outcome.next.inj h
  split
  · next hdue =>
    split
    · exact State.storageCheck_moves _
    · split
      · next t htarget =>
        have habandoned : (s.entry i).state = .abandoned := by simpa using (Bool.and_eq_true_iff.mp hdue).1
        exact State.reclaimed_moves habandoned htarget
      · exact Moves.refl
  · exact Moves.refl

end Sys2Proof.Machine
end

section
/-! SUPPORT. The effects of the served CONFIG requests: what each row changes before its answer is placed, as moves, with
the head, the credits due and the answers of its port as they stood (R144, R165). -/

namespace Sys2Proof.Machine

variable {c : Instr} {s : State} {p : RP} {tag : Tag} {t : TP}

/-! ## The checks in their order -/

theorem Effect.whenNormal {r : State × Status} (h : s.hub = .normal → Effect c p s r.1) :
    Effect c p s (s.whenNormal r).1 := by
  cases hn : s.hub with
  | normal => rw [State.whenNormal_eq hn]; exact h hn
  | contained => rw [State.whenNormal_contained hn]; exact .refl

theorem Effect.whenRight {right : Rights → Bool} {r : State × Status} (h : Effect c p s r.1) :
    Effect c p s (s.whenRight p right r).1 := by
  rw [State.whenRight]
  split
  · exact h
  · exact .refl

theorem Effect.whenValid {α : Type} {operand : Option α} {store : α → State × Status}
    (h : ∀ a, operand = some a → Effect c p s (store a).1) : Effect c p s (s.whenValid operand store).1 := by
  cases operand with
  | none => exact .refl
  | some a => exact h a rfl

theorem Effect.whenHolder {run : Claim → State × Status} (h : ∀ x, Effect c p s (run x).1) :
    Effect c p s (s.whenHolder p run).1 := by
  rw [State.whenHolder]
  split
  · exact h _
  · exact .refl

theorem Effect.settingsWrite {α : Type} {operand : Option α} {store : α → State}
    (h : ∀ a, operand = some a → Effect c p s (store a)) : Effect c p s (s.settingsWrite p operand store).1 :=
  .whenNormal fun _ => .whenRight (.whenValid h)

/-- An effect on registers alone. -/
theorem Effect.registers {v : State} (h : RegisterMove c s v) : Effect c p s v := by
  have hports : ∀ q, v.port q = s.port q := fun q => by rw [h.frame]; rfl
  exact .quiet (Move.registers h).moves (by rw [hports]) (by rw [hports]) (by rw [hports]) (by rw [h.frame])

/-- An effect on one bank alone. -/
theorem Effect.bank {b : Bank} {k : BankState} (h : BankStep c (s.bank b) k) : Effect c p s (s.setBank b k) :=
  .quiet (Move.bank b k h).moves rfl rfl rfl rfl

/-- An effect on one target alone. -/
theorem Effect.target {u : TargetPort} (h : TargetStep s t u) : Effect c p s (s.setTarget t u) :=
  .quiet (Move.target t u h).moves rfl rfl rfl rfl

/-- What the served head needs of its port is not changed by a reason raised behind an effect. -/
theorem Effect.raise {v : State} (h : Effect c p s v) (b : Bank) (x : Reason) : Effect c p s (v.raise b x) where
  moves := h.moves.trans (State.raise_moves x)
  ingress := by rw [State.raise_port_ingress, h.ingress]
  due := by rw [State.raise_port_due, h.due]
  responses := by simpa using h.responses
  load := by simpa using h.load

theorem Effect.andReport {v : State} (h : Effect c p s v) (b : Bank) (r : Report) : Effect c p s (v.report b r) where
  moves := h.moves.trans (State.report_moves r)
  ingress := by rw [State.report_port_ingress, h.ingress]
  due := by rw [State.report_port_due, h.due]
  responses := by simpa using h.responses
  load := by simpa using h.load

theorem Effect.offerAll {v : State} (h : Effect c p s v) : Effect c p s v.offerAll where
  moves := h.moves.trans State.offerAll_moves
  ingress := by rw [State.port_offerAll, h.ingress]
  due := by rw [State.port_offerAll, h.due]
  responses := by simpa using h.responses
  load := by simpa using h.load

/-! ## The edit unit -/

theorem Effect.claim (x : Option Claim) (n : Nat) : Effect c p s { s with claim := x, freeCount := n } :=
  .registers (.quiet s x s.lastGranted s.sequence n)

theorem State.commandFault_effect : Effect c p s (s.commandFault p tag) := .storageCheck _

theorem State.withClaim_effect (x : Table) : Effect c p s (s.withClaim p x) := .claim _ s.freeCount

theorem State.takeClaim_effect : Effect c p s (s.takeClaim p tag).1 := by
  refine .whenNormal fun _ => .whenRight ?_
  split
  · split
    · exact State.withClaim_effect _
    · exact State.commandFault_effect
  · split
    · exact State.withClaim_effect _
    · exact .refl

theorem Window.commits_iff {w : Window} :
    w.commits = true ↔
      (w.valid = true → w.base.toNat ≤ w.limit.toNat) ∧ (w.atomic = true → w.readTarget = w.writeTarget) := by
  cases hv : w.valid <;> cases ha : w.atomic <;> simp [Window.commits, hv, ha]

/-- R26: the commit check, window by window. -/
theorem Table.commits_iff {x : Table} :
    x.commits = true ↔ ∀ w, ((look x.windows w).valid = true →
      (look x.windows w).base.toNat ≤ (look x.windows w).limit.toNat) ∧
      ((look x.windows w).atomic = true → (look x.windows w).readTarget = (look x.windows w).writeTarget) := by
  simp [Table.commits, toList_eq_map_look, Window.commits_iff]

theorem State.install_effect {q : RP} {x : Table} (h : x.commits = true) : Effect (.commit q) p s (s.install x) := by
  have hmove : RegisterMove (.commit q) s { s with active := x, version := s.version + 1, claim := none } :=
    ⟨rfl, .inl rfl, .inl rfl, fun _ => .inl rfl, fun hc => absurd rfl (hc q), fun _ => Table.commits_iff.mp h,
      fun h => ⟨h, rfl⟩, fun _ => rfl⟩
  have hport : ∀ q, (s.install x).port q = { s.port q with outcome := none, offerDue := true } := fun q => look_tab _ q
  refine .quiet ((Move.registers hmove).moves.tail (.ports ⟨rfl, fun q => ?_⟩)) ?_ ?_ ?_ rfl
  · rw [hport]
    exact .of_eq rfl rfl rfl rfl rfl rfl rfl
  all_goals rw [hport]

theorem State.takeCommit_effect : Effect (.commit p) p s (s.takeCommit p tag).1 := by
  refine .whenNormal fun _ => .whenHolder fun x => ?_
  split
  · exact State.commandFault_effect
  · split
    · next h => exact State.install_effect h
    · exact State.withClaim_effect _

theorem State.takeAbort_effect : Effect c p s (s.takeAbort p).1 :=
  .whenNormal fun _ => .whenHolder fun _ => .claim none s.freeCount

theorem State.storeShadow_effect (x : Option Table) : Effect c p s (s.storeShadow p x).1 :=
  .whenNormal fun _ => .whenHolder fun _ => .whenValid fun _ _ => .claim _ (s.freeCount + 1)

theorem State.checkedRead_effect (parity : Bool) (data : List Byte) : Effect c p s (s.checkedRead p tag parity data).1 := by
  rw [State.checkedRead]
  split
  · exact .refl
  · exact State.commandFault_effect

theorem State.readShadow_effect (read : Table → Bool × List Byte) : Effect c p s (s.readShadow p tag read).1 := by
  rw [State.readShadow]
  split
  · exact State.checkedRead_effect _ _
  · exact .refl

theorem State.lockRights_effect : Effect c p s
    (s.whenNormal (s.whenRight p Rights.configure ({ s with rightsLock := true }, .ok))).1 :=
  .whenNormal fun _ => .whenRight (.registers ⟨rfl, .inl rfl, .inl rfl, fun _ => .inl rfl, fun _ => ⟨rfl, rfl⟩,
    fun h => h, fun _ => ⟨rfl, rfl⟩, fun _ => rfl⟩)

theorem State.rightsWrite_effect {q q' : RP} (x : Option Rights) : Effect (.rightsWrite q') p s
    (s.whenNormal (s.whenRight p Rights.configure
      (if s.rightsLock then (s, .denied) else s.whenValid x fun r => ({ s with rights := upd s.rights q r }, .ok)))).1 := by
  refine .whenNormal fun _ => .whenRight ?_
  split
  · exact .refl
  · next hlock =>
    exact .whenValid fun r _ => .registers ⟨rfl, .inl rfl, .inl rfl, fun _ => .inl rfl, fun _ => ⟨rfl, rfl⟩, fun h => h,
      fun h => absurd h hlock, fun h => absurd rfl (h q')⟩

/-! ## Settings -/

theorem inRange_eq_some {lo hi n m : Nat} : inRange lo hi n = some m ↔ (lo ≤ n ∧ n ≤ hi) ∧ n = m := by
  simp [inRange]

theorem State.leaseMs_effect {n m : Nat} (h : inRange 1 1000 n = some m) : Effect c p s { s with leaseMs := m } := by
  obtain ⟨hrange, rfl⟩ := inRange_eq_some.mp h
  exact .registers ⟨rfl, .inr hrange, .inl rfl, fun _ => .inl rfl, fun _ => ⟨rfl, rfl⟩, fun h => h, fun h => ⟨h, rfl⟩,
    fun _ => rfl⟩

theorem State.reclaimMs_effect {n m : Nat} (h : inRange 1 255 n = some m) : Effect c p s { s with reclaimMs := m } := by
  obtain ⟨hrange, rfl⟩ := inRange_eq_some.mp h
  exact .registers ⟨rfl, .inl rfl, .inr hrange, fun _ => .inl rfl, fun _ => ⟨rfl, rfl⟩, fun h => h, fun h => ⟨h, rfl⟩,
    fun _ => rfl⟩

theorem State.classIntervals_effect {n m : Nat} (k : Fin 4) (h : inRange 1 4095 n = some m) :
    Effect c p s { s with classIntervals := upd s.classIntervals k m } := by
  obtain ⟨hrange, rfl⟩ := inRange_eq_some.mp h
  refine .registers ⟨rfl, .inl rfl, .inl rfl, fun i => ?_, fun _ => ⟨rfl, rfl⟩, fun h => h, fun h => ⟨h, rfl⟩,
    fun _ => rfl⟩
  by_cases hi : k = i
  · subst hi
    exact .inr (by simpa using hrange)
  · exact .inl (look_upd_ne _ _ hi)

/-- R38: the cap of a port and the offer event of its change. -/
theorem State.cap_eq (q : RP) (n : Nat) :
    (s.setPort q { s.port q with cap := n }).offerPort q = s.setPort q { s.port q with cap := n, offerDue := true } := by
  simp [State.offerPort]

theorem State.cap_effect {n m : Nat} (q : RP) (h : inRange 1 32 n = some m) :
    Effect c p s ((s.setPort q { s.port q with cap := m }).offerPort q) := by
  obtain ⟨hrange, rfl⟩ := inRange_eq_some.mp h
  have hport : (s.setPort q { s.port q with cap := n, offerDue := true }).port p =
      { s.port p with
        cap := if q = p then n else (s.port p).cap, offerDue := if q = p then true else (s.port p).offerDue } := by
    by_cases hq : q = p
    · subst hq; simp
    · simp [hq]
  rw [State.cap_eq]
  refine .quiet (Move.moves (Move.port ⟨.inr hrange, rfl, .inl le_rfl, fun _ h => h⟩)) ?_ ?_ ?_ rfl <;> rw [hport]

theorem State.fenceLimit_effect {n m : Nat} (h : inRange 1 15 n = some m) :
    Effect c p s (s.setTarget t { s.target t with fenceLimit := m }) := by
  obtain ⟨hrange, rfl⟩ := inRange_eq_some.mp h
  exact .target ⟨rfl, fun _ => rfl, .inr le_rfl, fun hopen => ⟨hopen, rfl, rfl⟩, fun _ h => h, id, id, .inr hrange⟩

/-- A change of a bank's mask, floor or route. -/
theorem Effect.bankSettings {b : Bank} (mask : BitVec 32) (floor : Option Severity) (route : BitVec 4) :
    Effect c p s (s.setBank b { s.bank b with mask, floor, route }) := .bank ⟨id, id, fun _ _ h _ => h⟩

/-- A change of a bank's counter. -/
theorem BankStep.counter_only {k : BankState} {x : Counter} (h : k.counter.consistent → x.consistent) :
    BankStep c k { k with counter := x } := ⟨id, h, fun _ _ h _ => h⟩

theorem leakFrom_isSome {now ms : Nat} : (leakFrom now ms).isSome = true ↔ ms ≠ 0 := by
  rw [leakFrom]
  split <;> simp_all

theorem counterOfBytes_eq_some {data : List Byte} {x : Bool × Nat × Nat} (h : counterOfBytes data = some x) :
    1 ≤ x.2.1 ∧ x.2.1 ≤ 4095 ∧ x.2.2 ≤ 255 := by
  obtain ⟨n, hn, rfl⟩ := Option.map_eq_some_iff.mp h
  obtain ⟨⟨hlo, hhi⟩, rfl⟩ := inRange_eq_some.mp hn
  exact ⟨hlo, hhi, Nat.le_of_lt_succ (byteAt data 5).isLt⟩

/-- R104: a counter settings write leaves a consistent counter, whatever it was before. -/
theorem Counter.write_consistent (k : Counter) (now : Nat) (enable : Bool) {threshold leakMs : Nat}
    (hlo : 1 ≤ threshold) (hhi : threshold ≤ 4095) (hleak : leakMs ≤ 255) :
    (k.write now enable threshold leakMs).consistent := by
  refine ⟨?_, ?_, hlo, hhi, hleak, leakFrom_isSome⟩ <;> simp only [Counter.write]
  · split <;> omega
  · split <;> simp <;> omega

theorem State.storeCounter_effect {b : Bank} {data : List Byte} {x : Bool × Nat × Nat} (h : counterOfBytes data = some x) :
    Effect c p s (s.storeCounter b x) := by
  obtain ⟨hlo, hhi, hleak⟩ := counterOfBytes_eq_some h
  have hbank : Effect c p s (s.setBank b { s.bank b with
      counter := (s.bank b).counter.write s.clock x.1 x.2.1 x.2.2 }) :=
    .bank (.counter_only fun _ => Counter.write_consistent _ _ _ hlo hhi hleak)
  simp only [State.storeCounter]
  split
  · exact hbank.raise b .trip
  · exact hbank

/-! ## Banks -/

theorem State.popBank_effect {q : RP} (b : Bank) (n : BitVec 16) : Effect (.pop q) p s (s.popBank b n).1 := by
  rw [State.popBank]
  split
  · exact .refl
  · next r rest hrecords =>
    split
    · refine .bank ⟨fun h => ?_, id, fun h => absurd rfl (h q)⟩
      rw [hrecords, List.length_cons] at h
      exact (Nat.le_succ _).trans h
    · exact .refl

theorem State.clearOverflow_effect (b : Bank) : Effect c p s (s.setBank b { s.bank b with overflow := false }) :=
  .bank ⟨id, id, fun _ _ h _ => h⟩

theorem State.resetCounter_effect (b : Bank) : Effect c p s
    (s.setBank b { s.bank b with counter := { (s.bank b).counter with count := 0, tripped := false } }) := by
  refine .bank (.counter_only fun ⟨_, _, hlo, hrest⟩ => ⟨Nat.zero_le _, ⟨nofun, fun h => ?_⟩, hlo, hrest⟩)
  have hzero : 0 = (s.bank b).counter.threshold := h
  omega

/-- R91: the reader's snapshot is replaced while its request stands at its head. -/
theorem State.snapshot_effect (hhead : (s.port p).ingress ≠ []) (x : Option Snapshot) :
    Effect c p s (s.setPort p { s.port p with snapshot := x }) := by
  refine .quiet (Move.moves (Move.port ⟨.inl rfl, rfl, .inl le_rfl, fun _ h => absurd h (not_idle_of_ingress hhead)⟩))
    ?_ ?_ ?_ rfl <;> rw [State.port_setPort_same]

/-! ## FENCE and REOPEN -/

theorem State.fenceFor_effect (r : Report) : Effect (.fence p) p s (s.fenceFor t r) where
  moves := State.fenceFor_moves r
  ingress := by rw [State.fenceFor, State.fence_port, State.report_port_ingress]
  due := by rw [State.fenceFor, State.fence_port, State.report_port_due]
  responses := ⟨_, by rw [State.fenceFor, State.fence_port, State.report_port_responses], fun h => absurd rfl h⟩
  load := by
    have h := State.fence_load_le (s := s.report (.tgt t)
      { r with target := some t, detail := some (s.fenceDetail t) }) (t := t) p
    rw [State.report_port_responses, State.report_heldCount] at h
    exact h

theorem State.takeFence_effect : Effect (.fence p) p s (s.takeFence p tag t).1 := by
  simp only [State.takeFence]
  split
  · exact State.fenceFor_effect _
  · exact .refl
  · next hdown =>
    have htarget : Effect (.fence p) p s (s.setTarget t { s.target t with state := .fenced }) :=
      .target ⟨rfl, fun _ => rfl, .inr le_rfl, fun _ => ⟨by simp [hdown], rfl, rfl⟩, fun _ _ => rfl, by simp, id, .inl rfl⟩
    have hreport := htarget.andReport (.tgt t)
      { kind := .manualFence, severity := .fatal, port := some p, tag := some tag, target := some t, detail := some (0, 0) }
    refine Effect.offerAll ⟨hreport.moves.tail (Move.modLink (Link.handReset_step _)), hreport.ingress, hreport.due,
      hreport.responses, hreport.load⟩

theorem State.takeReopen_effect (hn : s.hub = .normal) : Effect c p s (s.takeReopen t).1 := by
  rw [State.takeReopen]
  split
  · exact .refl
  · exact .refl
  · split
    · exact .refl
    · split
      · exact .refl
      · refine Effect.offerAll (.raise (.target ?_) _ _)
        exact ⟨rfl, fun _ => rfl, .inr le_rfl, fun h => absurd rfl h, fun h => absurd (hn.symm.trans h) nofun, by simp,
          fun ⟨_, ha⟩ => ⟨ha, ha⟩, .inl rfl⟩

/-! ## The service of a head as moves -/

theorem Effect.answered_moves {v : State} (h : Effect c p s v) (hroom : s.hasRoom p) (hhead : (s.port p).ingress ≠ [])
    (status : Status) (data : List Byte) : Moves c s (v.answered p tag status data) :=
  h.moves.trans (State.answered_moves (h.hasRoom hroom) (by rwa [h.ingress]) tag status data)

theorem Effect.readAnswered_moves {v : State} (h : Effect c p s v) (hroom : s.hasRoom p)
    (hhead : (s.port p).ingress ≠ []) (status : Status) (data : List Byte) :
    Moves c s (v.readAnswered p tag status data) :=
  (h.moves.tail (.registers (.quiet v v.claim v.lastGranted v.sequence (v.freeCount + 8)))).trans
    (State.answered_moves (s := { v with freeCount := v.freeCount + 8 }) (h.hasRoom hroom)
      (by rw [← h.ingress] at hhead; exact hhead) tag status data)

/-- A CONFIG READ ends with its data where the status is OK, and with FFh otherwise (R144). -/
theorem finishRead_eq (p : RP) (tag : Tag) (x : State × Status × List Byte) :
    finishRead p tag x = x.1.readAnswered p tag x.2.1 (if x.2.1 = .ok then x.2.2 else ones 8) := by
  simp [finishRead, State.answerHead_eq, State.readAnswered]

theorem State.serveWrite_moves {run : Tag → RecordId → List Byte → Option (State × Status)}
    (h : ∀ tag r data x, run tag r data = some x → Effect c p s x.1) : Moves c s (s.serveWrite p run) := by
  rcases State.serveWrite_cases (s := s) p run with he | ⟨tag, number, data, r, x, ⟨hhead, hroom⟩, -, hx, he⟩
  · rw [he]
  · rw [he]
    exact (h _ _ _ _ hx).answered_moves hroom (ne_nil_of_atHead hhead) _ _

theorem State.serveCommand_moves {k : Command} {run : Tag → List Byte → State × Status}
    (h : ∀ tag data, Effect c p s (run tag data).1) : Moves c s (s.serveCommand p k run) := by
  refine State.serveWrite_moves fun tag r data x hx => ?_
  split at hx
  · split at hx
    · obtain rfl := Option.some.inj hx
      exact h tag data
    · cases hx
  · cases hx

theorem State.serveRead_moves {run : Tag → RecordId → Option (State × Status × List Byte)}
    (h : (s.port p).ingress ≠ [] → ∀ tag r x, run tag r = some x → Effect c p s x.1) : Moves c s (s.serveRead p run) := by
  rcases State.serveRead_cases (s := s) p run with he | ⟨tag, number, r, x, ⟨hhead, hroom⟩, -, hx, he⟩
  · rw [he]
  · rw [he]
    rw [finishRead_eq]
    exact (h (ne_nil_of_atHead hhead) _ _ _ hx).readAnswered_moves hroom (ne_nil_of_atHead hhead) _ _

theorem State.writeHead_eq_some {x : Tag × BitVec 16 × List Byte} (h : s.writeHead p = some x) :
    s.servesWrite p x.1 x.2.1 x.2.2 := by
  rw [State.writeHead] at h
  split at h
  · next hhead =>
    split at h
    · next hroom =>
      obtain rfl := Option.some.inj h
      exact ⟨hhead, (State.room_iff p).mp hroom⟩
    · cases h
  · cases h

theorem State.readHead_eq_some {x : Tag × BitVec 16} (h : s.readHead p = some x) : s.servesRead p x.1 x.2 := by
  rw [State.readHead] at h
  split at h
  · next hhead =>
    split at h
    · next hroom =>
      obtain rfl := Option.some.inj h
      exact ⟨hhead, (State.room_iff p).mp hroom⟩
    · cases h
  · cases h

theorem execConfigWrite_moves {v : State} (h : execConfigWrite p s = .next v) : Moves c s v := by
  obtain rfl := Host.Outcome.next.inj h
  have hread : ∀ x, s.readHead p = some x → ∀ status data, Moves c s (finishRead p x.1 (s, status, data)) :=
    fun x hx status data => by
      obtain ⟨hhead, hroom⟩ := State.readHead_eq_some hx
      rw [finishRead_eq]
      exact Effect.refl.readAnswered_moves hroom (ne_nil_of_atHead hhead) _ _
  split
  · next hwrite =>
    obtain ⟨hhead, hroom⟩ := State.writeHead_eq_some hwrite
    split
    · rw [finishWrite_eq]
      have heffect : Effect c p s (s.whenNormal (s, .invalid)).1 := .whenNormal fun _ => .refl
      exact heffect.answered_moves hroom (ne_nil_of_atHead hhead) _ _
    · exact Moves.refl
  · next hx =>
    split
    · split
      · exact hread _ hx _ _
      · exact Moves.refl
    · exact hread _ hx _ _
  · exact Moves.refl

end Sys2Proof.Machine
end

section
/-! SUPPORT. The moves of the outbound side and of the hub link, and with them of every command: `exec_moves`. -/

namespace Sys2Proof.Machine

variable {c : Instr} {s : State} {p : RP} {l : LinkId}

/-! ## The outbound side -/

/-- R146, R157: the outbound arbiter chooses nothing on a link that can take no packet. -/
theorem State.outbound_eq_some {x : Outbound} :
    s.outbound p = some x ↔ (s.link (.rp p)).canTake = true ∧ (s.port p).next = some x := by
  rw [State.outbound]
  split <;> simp_all

theorem PortStep.of_up {u : RequesterPort} (htake : (s.link (.rp p)).canTake = true) (hcap : u.cap = (s.port p).cap)
    (hsum : u.creditSum = (s.port p).creditSum) (hload : u.responses.length ≤ (s.port p).responses.length) :
    PortStep s p u :=
  ⟨.inl hcap, hsum, .inl hload, fun hdown => absurd (Link.canTake_iff.mp htake).1 hdown⟩

theorem State.outboundSend_moves {u : RequesterPort} {kind : PacketKind} {payload : List Byte}
    (htake : (s.link (.rp p)).canTake = true) (h : PortStep s p u) :
    Moves c s ((s.setPort p u).sendPacket (.rp p) kind payload) :=
  (Move.port h).moves.trans (State.sendPacket_moves (by rwa [State.setPort_link]) kind payload)

theorem execCreditSend_moves {v : State} (h : execCreditSend p s = .next v) : Moves c s v := by
  obtain rfl := Host.Outcome.next.inj h
  split
  · next hout =>
    have htake := (State.outbound_eq_some.mp hout).1
    refine State.outboundSend_moves htake (.of_up htake rfl ?_ le_rfl)
    simp only [RequesterPort.creditSum]
    omega
  · exact Moves.refl

theorem execResponseSend_moves {v : State} (h : execResponseSend p s = .next v) : Moves c s v := by
  obtain rfl := Host.Outcome.next.inj h
  split
  · next hout =>
    have htake := (State.outbound_eq_some.mp hout).1
    dsimp only
    split
    · next a rest hresponses =>
      exact State.outboundSend_moves htake (.of_up htake rfl rfl (by simp [hresponses]))
    · exact Moves.refl
  · exact Moves.refl

theorem execAlertSend_moves {v : State} (h : execAlertSend p s = .next v) : Moves c s v := by
  obtain rfl := Host.Outcome.next.inj h
  split
  · next hout =>
    have htake := (State.outbound_eq_some.mp hout).1
    dsimp only
    split
    · exact State.outboundSend_moves htake (.of_up htake rfl rfl le_rfl)
    · exact Moves.refl
  · exact Moves.refl

/-! ## One link -/

theorem Link.heard_step {k : Link} (hup : k.state = .up) (now : Nat) : LinkStep k (k.heard now) :=
  ⟨fun ⟨hreplay, hcount, hnak, _⟩ => ⟨hreplay, hcount, hnak, by simp [Link.heard, hup]⟩, Iff.rfl⟩

theorem LinkStep.trans {k k' k'' : Link} (h : LinkStep k k') (h' : LinkStep k' k'') : LinkStep k k'' :=
  ⟨fun hk => h'.bounded (h.bounded hk), h'.up.trans h.up⟩

/-- A change of what R152 does not bound. -/
theorem LinkStep.of_eq {k k' : Link} (hstate : k'.state = k.state) (hreplay : k'.replay = k.replay)
    (hcount : k'.replayCount = k.replayCount) (hnak : k'.nak = k.nak) (hsilence : k'.silence = k.silence) :
    LinkStep k k' := by
  refine ⟨fun h => ?_, by rw [hstate]⟩
  rw [Link.bounded, hstate, hreplay, hcount, hnak, hsilence]
  exact h

/-- A change of the NAK outstanding. -/
theorem LinkStep.nak {k k' : Link} (hstate : k'.state = k.state) (hreplay : k'.replay = k.replay)
    (hcount : k'.replayCount = k.replayCount) (hsilence : k'.silence = k.silence)
    (hnak : k.bounded → ∀ n, k'.nak = some n → 1 ≤ n.count ∧ n.count ≤ 3) : LinkStep k k' := by
  refine ⟨fun h => ?_, by rw [hstate]⟩
  have hn := hnak h
  rw [Link.bounded, hstate, hreplay, hcount, hsilence]
  exact ⟨h.1, h.2.1, hn, h.2.2.2⟩

/-- A change of the replay buffer and the replay count within their bounds. -/
theorem LinkStep.replay {k k' : Link} (hstate : k'.state = k.state) (hnak : k'.nak = k.nak)
    (hsilence : k'.silence = k.silence) (hreplay : k'.replay.length ≤ k.replay.length) (hcount : k'.replayCount ≤ 3) :
    LinkStep k k' := by
  refine ⟨fun ⟨hlen, _, hn, hs⟩ => ?_, by rw [hstate]⟩
  rw [Link.bounded, hstate, hnak, hsilence]
  exact ⟨hreplay.trans hlen, hcount, hn, hs⟩

theorem Link.fromFrame_length_le (k : Link) (n : Byte) : (k.fromFrame n).length ≤ k.replay.length :=
  (List.dropWhile_sublist _).length_le

theorem Link.acked_step (k : Link) (n : Byte) : LinkStep k (k.acked n) := by
  rw [Link.acked]
  split
  · refine .replay rfl rfl rfl ?_ (Nat.zero_le _)
    rw [List.length_drop]
    exact (Nat.sub_le _ _).trans (k.fromFrame_length_le n)
  · exact .of_eq rfl rfl rfl rfl rfl

theorem Link.replayFrom_step {k : Link} {n : Byte} (h : k.countAt n < 3) (now : Nat) :
    LinkStep k (k.replayFrom now n) := by
  have hkept : LinkStep k { k with replay := k.fromFrame n, replayCount := k.countAt n + 1 } :=
    .replay rfl rfl rfl (k.fromFrame_length_le n) h
  simp only [Link.replayFrom]
  split
  · exact hkept
  · exact hkept.trans (Link.emit_step _ _ _)

theorem Link.goUp_bounded {k : Link} (now : Nat) : (k.goUp now).bounded :=
  ⟨Nat.zero_le _, Nat.zero_le _, nofun, by simp [Link.goUp]⟩

/-- A link that is not UP and goes to another state that is not. -/
theorem LinkStep.not_up {k k' : Link} (hdown : k.state ≠ .up) (hdown' : k'.state ≠ .up) (hreplay : k'.replay = k.replay)
    (hcount : k'.replayCount = k.replayCount) (hnak : k'.nak = k.nak) (hsilence : k'.silence = k.silence) :
    LinkStep k k' := by
  refine ⟨fun ⟨h, hc, hn, hs⟩ => ?_, ⟨fun h => absurd h hdown', fun h => absurd h hdown⟩⟩
  rw [Link.bounded, hreplay, hcount, hnak, hsilence]
  exact ⟨h, hc, hn, hs.trans ⟨fun h => absurd h hdown, fun h => absurd h hdown'⟩⟩

/-! ## Training -/

theorem State.takeUp_tp_moves {t : TP} : Moves c s (s.takeUp (.tp t)) := by
  simp only [State.takeUp]
  split
  · next hcond =>
    obtain ⟨hdown, hn⟩ : (s.target t).state = .down ∧ s.hub = .normal := by simpa using hcond
    have hstep : TargetStep s t { s.target t with state := .opened, credits := (s.target t).advertisement } :=
      ⟨rfl, fun _ => rfl, .inr le_rfl, fun h => absurd rfl h, fun h => absurd (hn.symm.trans h) nofun, by simp,
        fun ⟨_, ha⟩ => ⟨ha, ha⟩, .inl rfl⟩
    exact (Move.target t _ hstep).moves.trans State.offerAll_moves
  · exact Moves.refl

theorem State.linkUp_moves : Moves c s (s.linkUp l) := by
  cases l with
  | rp p =>
    exact Move.moves (Move.requesterUp p _ _ (fun _ => Link.goUp_bounded s.clock) rfl rfl rfl rfl)
  | tp t => exact (Move.targetLink fun _ => Link.goUp_bounded s.clock).moves.trans State.takeUp_tp_moves

theorem State.storeAdvertisement_moves {a : Byte} (h : badTrain l a = false) : Moves c s (s.storeAdvertisement l a) := by
  cases l with
  | rp p => exact Moves.refl
  | tp t =>
    have ha : a.toNat ≤ 16 := by simpa [badTrain] using (Bool.or_eq_false_iff.mp h).2
    exact Move.moves (Move.target t _ ⟨rfl, fun _ => rfl, .inr le_rfl, fun h => ⟨h, rfl, rfl⟩, fun _ h => h, id,
      fun ⟨hc, _⟩ => ⟨hc, ha⟩, .inl rfl⟩)

theorem State.trainTaken_moves {a : Byte} (hdown : (s.link l).state ≠ .up) : Moves c s (s.trainTaken l a) := by
  rw [State.trainTaken]
  split
  · exact Moves.refl
  · next hgood =>
    have hstored : Moves c s ((s.modLink l fun k => { k.hand .ack255 with state := .training }).storeAdvertisement l a) :=
      (Move.modLink (.not_up hdown (by simp) rfl rfl rfl rfl)).moves.trans
        (State.storeAdvertisement_moves (Bool.eq_false_iff.mpr hgood))
    dsimp only
    split
    · exact hstored.trans State.linkUp_moves
    · exact hstored

/-- A fence hands a LINK RESET to its link and does not change the link's state. -/
theorem State.fenceFor_link_state (t : TP) (r : Report) (m : LinkId) :
    ((s.fenceFor t r).link m).state = (s.link m).state := by
  rw [State.fenceFor]
  by_cases hm : m = .tp t
  · subst hm
    rw [State.fence_link_same, State.report_link, Link.handReset]
    split <;> rfl
  · rw [State.fence_link_ne hm, State.report_link]

theorem State.takeLoss_link_state (m : LinkId) : ((s.takeLoss l).link m).state = (s.link m).state := by
  cases l with
  | rp p => simp [State.takeLoss]
  | tp t =>
    rw [State.takeLoss, State.targetLoss]
    split
    · exact State.fenceFor_link_state _ _ m
    · rw [State.report_link]
    · rfl

theorem State.resetByPartner_link_state : ((s.resetByPartner l).link l).state = .down := by
  rw [State.resetByPartner, State.takeLoss_link_state, State.link_modLink_same]
  rfl

theorem execTrainReceived_moves {a : Byte} {v : State} (h : execTrainReceived l a s = .next v) : Moves c s v := by
  obtain rfl := Host.Outcome.next.inj h
  split
  · next hdown => exact State.trainTaken_moves (by simp [hdown])
  · next htraining => exact State.trainTaken_moves (by simp [htraining])
  · next hup =>
    split
    · exact (State.resetByPartner_moves l).trans
        (State.trainTaken_moves (by simp [State.resetByPartner_link_state]))
    · have hheard : Moves c s (s.modLink l fun k => k.heard s.clock) := (Move.modLink (Link.heard_step hup _)).moves
      dsimp only
      split
      · exact hheard
      · next hgood =>
        exact (hheard.tail (Move.modLink (.of_eq rfl rfl rfl rfl rfl))).trans
          (State.storeAdvertisement_moves (Bool.eq_false_iff.mpr hgood))

theorem State.takeAck_moves (n : Byte) : Moves c s (s.takeAck l n) := by
  have hacked : Moves c s (s.modLink l fun k => { k with ownAcked := true }) :=
    (Move.modLink (.of_eq rfl rfl rfl rfl rfl)).moves
  rw [State.takeAck]
  split
  · split
    · exact hacked
    · exact Moves.refl
  · split
    · exact hacked.trans State.linkUp_moves
    · exact Moves.refl
  · next hup => exact (Move.modLink ((Link.heard_step hup _).trans (Link.acked_step _ _))).moves

theorem execLinkResetReceived_moves {v : State} (h : execLinkResetReceived l s = .next v) : Moves c s v := by
  obtain rfl := Host.Outcome.next.inj h
  split
  · exact Moves.refl
  · next htraining => exact (Move.modLink (.not_up (by simp [htraining]) (by simp) rfl rfl rfl rfl)).moves
  · exact State.resetByPartner_moves l

/-! ## Retries -/

theorem State.reportRetry_moves : Moves c s (s.reportRetry l) := by
  cases l with
  | rp p => exact State.report_moves _
  | tp t => exact State.report_moves _

/-- R159: a NAK handed for the first time. -/
theorem State.nakRule_moves : Moves c s (s.nakRule l) := by
  rw [State.nakRule]
  split
  · refine (Move.modLink (.nak rfl rfl rfl rfl fun _ n hn => ?_)).moves.trans State.reportRetry_moves
    obtain rfl := Option.some.inj hn
    exact ⟨le_rfl, by simp⟩
  · exact Moves.refl

/-- R159: a NAK handed again counts on, to 3 at the most. -/
theorem State.failedReplay_moves {n m : Nak} (hm : (s.link l).nak = some m) (hcount : n.count = m.count) :
    Moves c s (s.failedReplay l n) := by
  rw [State.failedReplay]
  split
  · next hlt =>
    refine (Move.modLink (.nak rfl rfl rfl rfl fun hbounded x hx => ?_)).moves.trans State.reportRetry_moves
    obtain rfl := Option.some.inj hx
    obtain ⟨-, -, hnak, -⟩ := hbounded
    have := hnak m hm
    dsimp only
    omega
  · exact State.loseLink_moves l

theorem State.takeCrcFailure_moves : Moves c s (s.takeCrcFailure l) := by
  rw [State.takeCrcFailure]
  split
  · exact Moves.refl
  · exact Moves.refl
  · next hup =>
    have hheard : Moves c s (s.modLink l fun k => k.heard s.clock) := (Move.modLink (Link.heard_step hup _)).moves
    dsimp only
    split
    · next n hn => exact hheard.trans (State.failedReplay_moves (m := n) (by rw [State.link_modLink_same]; exact hn) rfl)
    · exact hheard.trans State.nakRule_moves

/-! ## Packets -/

theorem State.deliver_moves (hup : (s.link l).state = .up) (kind : PacketKind) (payload : List Byte) :
    Moves c s (s.deliver l kind payload) := by
  unfold State.deliver
  split
  · exact State.arrive_moves hup _
  · exact State.arrive_moves hup _
  · exact State.takeResponse_moves _
  · exact State.takeCreditPacket_moves _
  · split
    · exact State.fenceFor_moves _
    · exact Moves.refl

/-- R157, R158: any numbered frame taken while UP confirms the partner and restarts the silence deadline. -/
theorem State.confirmed_moves (hup : (s.link l).state = .up) :
    Moves c s (s.modLink l fun k => { k.heard s.clock with confirmed := true }) :=
  (Move.modLink ((Link.heard_step hup s.clock).trans (.of_eq rfl rfl rfl rfl rfl))).moves

theorem State.takePacketFrame_moves (number : Byte) (kind : PacketKind) (payload : List Byte) :
    Moves c s (s.takePacketFrame l number kind payload) := by
  rw [State.takePacketFrame]
  split
  · exact Moves.refl
  · exact Moves.refl
  · next hup =>
    have hheard : Moves c s _ := State.confirmed_moves hup
    dsimp only
    split
    · have htaken := hheard.tail (Move.modLink (l := l) (f := fun k : Link => { k with
          expected := k.expected + 1, nak := k.nak.filter fun n => n.number ≠ number, ackDue := true })
        (.nak rfl rfl rfl rfl fun ⟨_, _, hnak, _⟩ n hn => hnak n (Option.filter_eq_some_iff.mp hn).1))
      refine htaken.trans (State.deliver_moves ?_ kind payload)
      rw [State.link_modLink_same, State.link_modLink_same]
      exact hup
    · split
      · exact hheard.trans State.nakRule_moves
      · exact hheard

theorem execPacketFrameReceived_moves {number : Byte} {kind : PacketKind} {payload : List Byte} {v : State}
    (h : execPacketFrameReceived l number kind payload s = .next v) : Moves c s v := by
  obtain rfl := Host.Outcome.next.inj h
  split
  · exact State.takePacketFrame_moves _ _ _
  · exact State.takeCrcFailure_moves

theorem execIdleReceived_moves {number : Byte} {v : State} (h : execIdleReceived l number s = .next v) :
    Moves c s v := by
  obtain rfl := Host.Outcome.next.inj h
  split
  · exact Moves.refl
  · exact Moves.refl
  · next hup =>
    have hheard : Moves c s _ := State.confirmed_moves hup
    dsimp only
    split
    · exact hheard
    · exact hheard.trans State.nakRule_moves

theorem execNakReceived_moves {n : Byte} {v : State} (h : execNakReceived l n s = .next v) : Moves c s v := by
  obtain rfl := Host.Outcome.next.inj h
  split
  · exact Moves.refl
  · exact Moves.refl
  · next hup =>
    have hheard : LinkStep (s.link l) ((s.link l).heard s.clock) := Link.heard_step hup _
    dsimp only
    split
    · split
      · next hcount =>
        exact (Move.link (hheard.trans (Link.replayFrom_step hcount _))).moves.trans State.reportRetry_moves
      · exact (Move.link hheard).moves.trans (State.loseLink_moves l)
    · split
      · have hempty : LinkStep ((s.link l).heard s.clock) { (s.link l).heard s.clock with replay := [], replayCount := 0 } :=
          .replay rfl rfl rfl (Nat.zero_le _) (Nat.zero_le _)
        exact (Move.link (hheard.trans hempty)).moves
      · exact (Move.link hheard).moves

/-! ## Link frames sent, and deadlines -/

theorem execTrainSend_moves {v : State} (h : execTrainSend l s = .next v) : Moves c s v := by
  obtain rfl := Host.Outcome.next.inj h
  split
  · exact (Move.modLink (Link.emit_step _ _ _)).moves
  · exact Moves.refl

theorem execLinkResetSend_moves {v : State} (h : execLinkResetSend l s = .next v) : Moves (.linkResetSend l) s v := by
  obtain rfl := Host.Outcome.next.inj h
  split
  · exact Move.moves (Move.linkReset l _ rfl (Link.goDown_bounded false) (by simp [Link.goDown]))
  · exact Moves.refl

theorem execNakSend_moves {v : State} (h : execNakSend l s = .next v) : Moves c s v := by
  obtain rfl := Host.Outcome.next.inj h
  split
  · exact (Move.link (Link.flush_step _ _)).moves
  · exact Moves.refl

theorem execAckSend_moves {v : State} (h : execAckSend l s = .next v) : Moves c s v := by
  obtain rfl := Host.Outcome.next.inj h
  split
  · exact Moves.refl
  · split
    · exact (Move.link (Link.flush_step _ _)).moves
    · split
      · exact Move.moves (Move.link ((Link.emit_step _ s.clock [ackFrame ((s.link l).expected - 1)]).trans
          (.of_eq rfl rfl rfl rfl rfl)))
      · exact Moves.refl

theorem execIdleSend_moves {v : State} (h : execIdleSend l s = .next v) : Moves c s v := by
  obtain rfl := Host.Outcome.next.inj h
  split
  · exact (Move.link (Link.emit_step _ _ _)).moves
  · exact Moves.refl

theorem execReplayTimeout_moves {v : State} (h : execReplayTimeout l s = .next v) : Moves c s v := by
  obtain rfl := Host.Outcome.next.inj h
  split
  · next n hn =>
    split
    · exact State.failedReplay_moves hn rfl
    · exact Moves.refl
  · exact Moves.refl

theorem execSilenceDeadline_moves {v : State} (h : execSilenceDeadline l s = .next v) : Moves c s v := by
  obtain rfl := Host.Outcome.next.inj h
  split
  · exact State.loseLink_moves l
  · exact Moves.refl

/-! ## The edit unit and the banks without a head -/

theorem execLeaseExpiry_moves {v : State} (h : execLeaseExpiry s = .next v) : Moves c s v := by
  obtain rfl := Host.Outcome.next.inj h
  split
  · split
    · exact (State.claim_moves none).trans (State.report_moves _)
    · exact Moves.refl
  · exact Moves.refl

theorem Counter.leak_consistent {k : Counter} (now : Nat) (h : k.consistent) : (k.leak now).consistent := by
  obtain ⟨hle, htripped, hlo, hhi, hms, -⟩ := h
  refine ⟨?_, ?_, hlo, hhi, hms, leakFrom_isSome⟩ <;> simp only [Counter.leak]
  · split <;> omega
  · cases ht : k.tripped with
    | true => simpa [ht] using htripped
    | false =>
      have hne : k.count ≠ k.threshold := by simpa [ht] using htripped
      simp
      omega

theorem execLeakExpiry_moves {b : Bank} {v : State} (h : execLeakExpiry b s = .next v) : Moves c s v := by
  obtain rfl := Host.Outcome.next.inj h
  split
  · exact (Move.bank b _ (.counter_only (Counter.leak_consistent s.clock))).moves
  · exact Moves.refl

/-! ## The rows of the CONFIG requests -/

theorem execHeadFirstPartRead_moves {v : State} (h : execHeadFirstPartRead p s = .next v) : Moves c s v := by
  obtain rfl := Host.Outcome.next.inj h
  refine State.serveRead_moves fun hhead tag r x hx => ?_
  split at hx
  · obtain rfl := Option.some.inj hx
    exact State.snapshot_effect hhead _
  · cases hx

theorem execPop_moves {v : State} (h : execPop p s = .next v) : Moves (.pop p) s v := by
  obtain rfl := Host.Outcome.next.inj h
  exact State.serveCommand_moves fun _ _ => .whenRight (.whenValid fun b _ => State.popBank_effect b _)

theorem execClearOverflow_moves {v : State} (h : execClearOverflow p s = .next v) : Moves c s v := by
  obtain rfl := Host.Outcome.next.inj h
  exact State.serveCommand_moves fun _ _ =>
    .whenNormal fun _ => .whenRight (.whenValid fun b _ => State.clearOverflow_effect b)

theorem execInject_moves {v : State} (h : execInject p s = .next v) : Moves c s v := by
  obtain rfl := Host.Outcome.next.inj h
  exact State.serveCommand_moves fun _ _ =>
    .whenNormal fun _ => .whenRight (.whenValid fun x _ => .report x.bank x.report)

theorem execResetCounter_moves {v : State} (h : execResetCounter p s = .next v) : Moves c s v := by
  obtain rfl := Host.Outcome.next.inj h
  exact State.serveCommand_moves fun _ _ =>
    .whenNormal fun _ => .whenRight (.whenValid fun b _ => State.resetCounter_effect b)

theorem execClaim_moves {v : State} (h : execClaim p s = .next v) : Moves c s v := by
  obtain rfl := Host.Outcome.next.inj h
  exact State.serveCommand_moves fun _ _ => State.takeClaim_effect

theorem execCommit_moves {v : State} (h : execCommit p s = .next v) : Moves (.commit p) s v := by
  obtain rfl := Host.Outcome.next.inj h
  exact State.serveCommand_moves fun _ _ => State.takeCommit_effect

theorem execAbort_moves {v : State} (h : execAbort p s = .next v) : Moves c s v := by
  obtain rfl := Host.Outcome.next.inj h
  exact State.serveCommand_moves fun _ _ => State.takeAbort_effect

theorem execLockRights_moves {v : State} (h : execLockRights p s = .next v) : Moves c s v := by
  obtain rfl := Host.Outcome.next.inj h
  exact State.serveCommand_moves fun _ _ => State.lockRights_effect

theorem execFence_moves {v : State} (h : execFence p s = .next v) : Moves (.fence p) s v := by
  obtain rfl := Host.Outcome.next.inj h
  exact State.serveCommand_moves fun _ _ =>
    .whenNormal fun _ => .whenRight (.whenValid fun _ _ => State.takeFence_effect)

theorem execReopen_moves {v : State} (h : execReopen p s = .next v) : Moves c s v := by
  obtain rfl := Host.Outcome.next.inj h
  exact State.serveCommand_moves fun _ _ =>
    .whenNormal fun hn => .whenRight (.whenValid fun _ _ => State.takeReopen_effect hn)

theorem execShadowWrite_moves {v : State} (h : execShadowWrite p s = .next v) : Moves c s v := by
  obtain rfl := Host.Outcome.next.inj h
  refine State.serveWrite_moves fun tag r data x hx => ?_
  dsimp only at hx
  split at hx
  · obtain rfl := Option.some.inj hx
    exact State.storeShadow_effect _
  · obtain rfl := Option.some.inj hx
    exact State.storeShadow_effect _
  · obtain rfl := Option.some.inj hx
    exact State.storeShadow_effect _
  · cases hx

theorem execShadowRead_moves {v : State} (h : execShadowRead p s = .next v) : Moves c s v := by
  obtain rfl := Host.Outcome.next.inj h
  refine State.serveRead_moves fun _ tag r x hx => ?_
  split at hx
  · obtain rfl := Option.some.inj hx
    exact State.readShadow_effect _
  · obtain rfl := Option.some.inj hx
    exact State.readShadow_effect _
  · obtain rfl := Option.some.inj hx
    exact State.readShadow_effect _
  · cases hx

theorem execActiveTableRead_moves {v : State} (h : execActiveTableRead p s = .next v) : Moves c s v := by
  obtain rfl := Host.Outcome.next.inj h
  refine State.serveRead_moves fun _ tag r x hx => ?_
  split at hx
  · obtain rfl := Option.some.inj hx
    exact State.checkedRead_effect _ _
  · obtain rfl := Option.some.inj hx
    exact State.checkedRead_effect _ _
  · obtain rfl := Option.some.inj hx
    exact State.checkedRead_effect _ _
  · cases hx

theorem execRightsWrite_moves {v : State} (h : execRightsWrite p s = .next v) : Moves (.rightsWrite p) s v := by
  obtain rfl := Host.Outcome.next.inj h
  refine State.serveWrite_moves fun tag r data x hx => ?_
  split at hx
  · obtain rfl := Option.some.inj hx
    exact State.rightsWrite_effect _
  · cases hx

theorem execLeaseIntervalWrite_moves {v : State} (h : execLeaseIntervalWrite p s = .next v) : Moves c s v := by
  obtain rfl := Host.Outcome.next.inj h
  refine State.serveWrite_moves fun tag r data x hx => ?_
  split at hx
  · obtain rfl := Option.some.inj hx
    exact .settingsWrite fun _ => State.leaseMs_effect
  · cases hx

theorem execCapWrite_moves {v : State} (h : execCapWrite p s = .next v) : Moves c s v := by
  obtain rfl := Host.Outcome.next.inj h
  refine State.serveWrite_moves fun tag r data x hx => ?_
  split at hx
  · obtain rfl := Option.some.inj hx
    exact .settingsWrite fun _ => State.cap_effect _
  · cases hx

theorem execClassIntervalWrite_moves {v : State} (h : execClassIntervalWrite p s = .next v) : Moves c s v := by
  obtain rfl := Host.Outcome.next.inj h
  refine State.serveWrite_moves fun tag r data x hx => ?_
  split at hx
  · obtain rfl := Option.some.inj hx
    exact .settingsWrite fun _ => State.classIntervals_effect _
  · cases hx

theorem execReclaimIntervalWrite_moves {v : State} (h : execReclaimIntervalWrite p s = .next v) : Moves c s v := by
  obtain rfl := Host.Outcome.next.inj h
  refine State.serveWrite_moves fun tag r data x hx => ?_
  split at hx
  · obtain rfl := Option.some.inj hx
    exact .settingsWrite fun _ => State.reclaimMs_effect
  · cases hx

theorem execFenceLimitWrite_moves {v : State} (h : execFenceLimitWrite p s = .next v) : Moves c s v := by
  obtain rfl := Host.Outcome.next.inj h
  refine State.serveWrite_moves fun tag r data x hx => ?_
  split at hx
  · obtain rfl := Option.some.inj hx
    exact .settingsWrite fun _ => State.fenceLimit_effect
  · cases hx

theorem execMaskWrite_moves {v : State} (h : execMaskWrite p s = .next v) : Moves c s v := by
  obtain rfl := Host.Outcome.next.inj h
  refine State.serveWrite_moves fun tag r data x hx => ?_
  split at hx
  · obtain rfl := Option.some.inj hx
    exact .settingsWrite fun m _ => .bankSettings m _ _
  · cases hx

theorem execAlertFloorRouteWrite_moves {v : State} (h : execAlertFloorRouteWrite p s = .next v) : Moves c s v := by
  obtain rfl := Host.Outcome.next.inj h
  refine State.serveWrite_moves fun tag r data x hx => ?_
  split at hx
  · obtain rfl := Option.some.inj hx
    exact .settingsWrite fun x _ => .bankSettings _ x.1 x.2
  · cases hx

theorem execCounterSettingsWrite_moves {v : State} (h : execCounterSettingsWrite p s = .next v) : Moves c s v := by
  obtain rfl := Host.Outcome.next.inj h
  refine State.serveWrite_moves fun tag r data x hx => ?_
  split at hx
  · obtain rfl := Option.some.inj hx
    exact .settingsWrite fun _ => State.storeCounter_effect
  · cases hx

/-! ## Every command -/

/-- Every command is made of its moves. -/
theorem exec_moves {v : State} (h : exec c s = .next v) : Moves c s v := by
  cases c with
  | coldReset => exact Host.Outcome.next.inj h ▸ (Move.coldReset rfl).moves
  | warmReset => exact Host.Outcome.next.inj h ▸ (Move.warmReset rfl).moves
  | requestArrival p r => exact execRequestArrival_moves r h
  | offer p => exact execOffer_moves h
  | grant => exact execGrant_moves h
  | postedWriteGrant => exact execPostedWriteGrant_moves h
  | send t => exact execSend_moves h
  | postedWriteSend t => exact execPostedWriteSend_moves h
  | creditReturn t amount => exact execCreditReturn_moves amount h
  | responseIntake t r => exact execResponseIntake_moves r h
  | stage1Expiry i => exact execStage1Expiry_moves h
  | stage2Expiry i => exact execStage2Expiry_moves h
  | reclaimExpiry i => exact execReclaimExpiry_moves h
  | containedHeadHandling p => exact execContainedHeadHandling_moves h
  | refusalPlaceAnswer p => exact execRefusalPlaceAnswer_moves h
  | claim p => exact execClaim_moves h
  | commit p => exact execCommit_moves h
  | abort p => exact execAbort_moves h
  | lockRights p => exact execLockRights_moves h
  | shadowWrite p => exact execShadowWrite_moves h
  | shadowRead p => exact execShadowRead_moves h
  | activeTableRead p => exact execActiveTableRead_moves h
  | rightsWrite p => exact execRightsWrite_moves h
  | leaseIntervalWrite p => exact execLeaseIntervalWrite_moves h
  | capWrite p => exact execCapWrite_moves h
  | classIntervalWrite p => exact execClassIntervalWrite_moves h
  | reclaimIntervalWrite p => exact execReclaimIntervalWrite_moves h
  | fenceLimitWrite p => exact execFenceLimitWrite_moves h
  | maskWrite p => exact execMaskWrite_moves h
  | alertFloorRouteWrite p => exact execAlertFloorRouteWrite_moves h
  | counterSettingsWrite p => exact execCounterSettingsWrite_moves h
  | configWrite p => exact execConfigWrite_moves h
  | headFirstPartRead p => exact execHeadFirstPartRead_moves h
  | pop p => exact execPop_moves h
  | clearOverflow p => exact execClearOverflow_moves h
  | inject p => exact execInject_moves h
  | resetCounter p => exact execResetCounter_moves h
  | fence p => exact execFence_moves h
  | reopen p => exact execReopen_moves h
  | leaseExpiry => exact execLeaseExpiry_moves h
  | leakExpiry b => exact execLeakExpiry_moves h
  | creditSend p => exact execCreditSend_moves h
  | responseSend p => exact execResponseSend_moves h
  | alertSend p => exact execAlertSend_moves h
  | trainSend l => exact execTrainSend_moves h
  | trainReceived l a => exact execTrainReceived_moves h
  | ack255Received l => exact Host.Outcome.next.inj h ▸ State.takeAck_moves 255
  | linkResetSend l => exact execLinkResetSend_moves h
  | linkResetReceived l => exact execLinkResetReceived_moves h
  | packetFrameReceived l number kind payload => exact execPacketFrameReceived_moves h
  | idleReceived l number => exact execIdleReceived_moves h
  | crcFailureReceived l => exact Host.Outcome.next.inj h ▸ State.takeCrcFailure_moves
  | ackReceived l number => exact Host.Outcome.next.inj h ▸ State.takeAck_moves number
  | nakReceived l number => exact execNakReceived_moves h
  | nakSend l => exact execNakSend_moves h
  | ackSend l => exact execAckSend_moves h
  | idleSend l => exact execIdleSend_moves h
  | replayTimeout l => exact execReplayTimeout_moves h
  | silenceDeadline l => exact execSilenceDeadline_moves h

end Sys2Proof.Machine
end

section
/-! SUPPORT. What every move keeps: the banks, the links, the settings with the active table and the target credits, and
what only some commands change. Settles O1, O2, O54, O57, O58 and O60. -/

namespace Sys2Proof.Machine

variable {c : Instr} {s t : State}

/-! ## Steps -/

/-- Settles O1: `step` is defined by the front of the queue. -/
theorem stepRunsTheFrontCommand : Obligations.StepRunsTheFrontCommand := by
  refine ⟨fun s c rest h => ?_, fun s h => ?_⟩
  · simp only [step, h]
  · simp only [step, h, State.tick]

/-- What a microsecond, the taking of a command from the queue and every move of a command keep, a step keeps. -/
theorem step_keeps {P : State → Prop} (htick : ∀ u, P u → P u.tick) (hpop : ∀ u pending, P u → P { u with pending })
    (hmove : ∀ c u v, Move c u v → P u → P v) (h : step s = .next t) (hs : P s) : P t := by
  unfold step at h
  split at h
  · exact Host.Outcome.next.inj h ▸ htick s hs
  · exact (exec_moves h).keeps (hmove _) (hpop s _ hs)

/-! ## Operations on the fields they leave -/

section Frames

variable (s)

@[simp] theorem State.placeFor_entries (e : Entry) (a : Answer) : (s.placeFor e a).entries = s.entries := by
  rw [State.placeFor]; split <;> rfl
@[simp] theorem State.placeFor_targets (e : Entry) (a : Answer) : (s.placeFor e a).targets = s.targets := by
  rw [State.placeFor]; split <;> rfl
@[simp] theorem State.placeFor_links (e : Entry) (a : Answer) : (s.placeFor e a).links = s.links := by
  rw [State.placeFor]; split <;> rfl
@[simp] theorem State.placeFor_banks (e : Entry) (a : Answer) : (s.placeFor e a).banks = s.banks := by
  rw [State.placeFor]; split <;> rfl

/-- R39, R53: the answer of an entry joins the queue of its port unless requester lost is set. -/
theorem State.placeFor_port (e : Entry) (a : Answer) (q : RP) :
    (s.placeFor e a).port q =
      { s.port q with
        responses := (s.port q).responses ++ if e.lost = false ∧ e.port = q then [a] else [] } := by
  rw [State.placeFor]
  cases hl : e.lost with
  | true => simp
  | false =>
    by_cases hq : e.port = q
    · subst hq; simp [State.place]
    · simp [State.place, hq]

end Frames

/-! ## Commands and the clock -/

/-- Every command answers a next state. -/
theorem exec_next (c : Instr) (s : State) : ∃ t, exec c s = .next t := by
  cases c <;> exact ⟨_, rfl⟩

/-- A move is a reset, a change of registers, or leaves every register as it was. -/
theorem Move.frame (h : Move c s t) :
    (c = .coldReset ∧ t = { State.reset with freeCount := s.freeCount, pending := s.pending }) ∨
    (c = .warmReset ∧ t = { State.reset with
      clock := s.clock, banks := tab fun i => (look s.banks i).overWarmReset s.clock, sequence := s.sequence,
      freeCount := s.freeCount, pending := s.pending }) ∨
    RegisterMove c s t ∨
    t = { s with
      hub := t.hub, entries := t.entries, ports := t.ports, targets := t.targets, links := t.links,
      banks := t.banks } := by
  cases h with
  | coldReset hc => exact .inl ⟨hc, rfl⟩
  | warmReset hc => exact .inr (.inl ⟨hc, rfl⟩)
  | registers h => exact .inr (.inr (.inl h))
  | ports h => exact .inr (.inr (.inr (by rw [h.frame])))
  | target u k h => exact .inr (.inr (.inr rfl))
  | links h => exact .inr (.inr (.inr (by rw [h.frame])))
  | bank b k h => exact .inr (.inr (.inr rfl))
  | linkReset l k hc hk hdown => exact .inr (.inr (.inr rfl))
  | requesterUp p k u hk hup hu hresponses hcap => exact .inr (.inr (.inr rfl))
  | requesterDown p k hk hdown => exact .inr (.inr (.inr (by rw [State.discardPort_eq]; rfl)))
  | queue p u i cls kind tag a n data hfree hopen hlength hroom hhead => exact .inr (.inr (.inr rfl))
  | issue u i data rest d hegress => exact .inr (.inr (.inr rfl))
  | late i d hissued => exact .inr (.inr (.inr rfl))
  | abandon i u d a hlate htarget =>
    refine .inr (.inr (.inr ?_))
    rw [State.placeFor]
    split <;> rfl
  | complete i a hstate =>
    refine .inr (.inr (.inr ?_))
    rw [State.placeFor]
    split <;> rfl
  | reclaim i u habandoned htarget => exact .inr (.inr (.inr rfl))
  | cutOff hub cut sel st hsel hhub =>
    refine .inr (.inr (.inr ?_))
    simp only [State.cutOffWhere, State.endEntries]

/-- A reset leaves the reset values, whatever it keeps of the clock, the banks, the sequence counter and the queue. -/
def Resets (c : Instr) (t : State) : Prop :=
  (c = .coldReset ∨ c = .warmReset) ∧ ∃ clock banks sequence freeCount pending,
    t = { State.reset with clock, banks, sequence, freeCount, pending }

/-- What the reset state meets without its clock, banks and queue, a reset leaves. -/
theorem Resets.meets {P : State → Prop} (h : Resets c t)
    (hP : ∀ clock banks sequence freeCount pending, P { State.reset with clock, banks, sequence, freeCount, pending }) :
    P t := by
  obtain ⟨-, clock, banks, sequence, freeCount, pending, rfl⟩ := h
  exact hP clock banks sequence freeCount pending

theorem Move.resets_or (h : Move c s t) :
    Resets c t ∨ RegisterMove c s t ∨
    t = { s with
      hub := t.hub, entries := t.entries, ports := t.ports, targets := t.targets, links := t.links,
      banks := t.banks } := by
  rcases h.frame with ⟨hc, h⟩ | ⟨hc, h⟩ | h | h
  · exact .inl ⟨.inl hc, _, _, _, _, _, h⟩
  · exact .inl ⟨.inr hc, _, _, _, _, _, h⟩
  · exact .inr (.inl h)
  · exact .inr (.inr h)

theorem Move.pending (h : Move c s t) : t.pending = s.pending := by
  rcases h.frame with ⟨-, h⟩ | ⟨-, h⟩ | h | h
  · rw [h]
  · rw [h]
  · rw [h.frame]
  · rw [h]

theorem Move.clock (h : Move c s t) (hcold : c ≠ .coldReset) : t.clock = s.clock := by
  rcases h.frame with ⟨hc, -⟩ | ⟨-, h⟩ | h | h
  · exact absurd hc hcold
  · rw [h]
  · rw [h.frame]
  · rw [h]

/-- Settles O2: every command answers, and no move but the cold reset's changes the queue or the clock. -/
theorem everyCommandCompletesAndKeepsQueueAndClock : Obligations.EveryCommandCompletesAndKeepsQueueAndClock := by
  intro c s
  obtain ⟨t, ht⟩ := exec_next c s
  refine ⟨t, ht, ?_, fun hcold => ?_⟩
  · exact (exec_moves ht).keeps (P := fun u => u.pending = s.pending) (fun _ _ h hu => h.pending.trans hu) rfl
  · exact (exec_moves ht).keeps (P := fun u => u.clock = s.clock) (fun _ _ h hu => (h.clock hcold).trans hu) rfl

/-! ## Banks -/

/-- What a move makes of the banks: reset values, a restarted leak, the banks as they were, or one bank changed. -/
theorem Move.banks (h : Move c s t) :
    (c = .coldReset ∧ ∀ b, t.bank b = BankState.reset) ∨
    (c = .warmReset ∧ ∀ b, t.bank b = (s.bank b).overWarmReset s.clock) ∨
    (∀ b, t.bank b = s.bank b) ∨
    ∃ b k, BankStep c (s.bank b) k ∧ ∀ x, t.bank x = if b = x then k else s.bank x := by
  cases h with
  | coldReset hc => exact .inl ⟨hc, State.reset_bank⟩
  | warmReset hc => exact .inr (.inl ⟨hc, fun b => look_tab _ b.idx⟩)
  | bank b k h => exact .inr (.inr (.inr ⟨b, k, h, fun x => State.bank_setBank s b x k⟩))
  | registers h => exact .inr (.inr (.inl fun b => by rw [h.frame]; rfl))
  | ports h => exact .inr (.inr (.inl fun b => by rw [h.frame]; rfl))
  | links h => exact .inr (.inr (.inl fun b => by rw [h.frame]; rfl))
  | requesterDown p k hk hdown => exact .inr (.inr (.inl fun b => by simp))
  | abandon i u d a hlate htarget => exact .inr (.inr (.inl fun b => by simp [State.bank]))
  | complete i a hstate => exact .inr (.inr (.inl fun b => by simp [State.bank]))
  | cutOff hub cut sel st hsel hhub => exact .inr (.inr (.inl fun b => by simp [State.cutOffWhere, State.bank]))
  | target | linkReset | requesterUp | queue | issue | late | reclaim => exact .inr (.inr (.inl fun _ => rfl))

theorem Counter.reset_consistent : Counter.reset.consistent :=
  ⟨by decide, by simp [Counter.reset], by decide, by decide, by decide, by simp [Counter.reset]⟩

/-- R101: a leak that restarts keeps a counter consistent. -/
theorem Counter.restarted_consistent {k : Counter} (now : Nat) (h : k.consistent) :
    Counter.consistent { k with leakDeadline := leakFrom now k.leakMs } := by
  obtain ⟨hle, htripped, hlo, hhi, hms, -⟩ := h
  exact ⟨hle, htripped, hlo, hhi, hms, leakFrom_isSome⟩

theorem Move.banksKept (h : Move c s t) (hs : s.banksKept) : t.banksKept := by
  intro x
  rcases h.banks with ⟨-, h⟩ | ⟨-, h⟩ | h | ⟨b, k, hk, h⟩ <;> rw [h]
  · exact ⟨Nat.zero_le _, Counter.reset_consistent⟩
  · exact ⟨(hs x).1, Counter.restarted_consistent _ (hs x).2⟩
  · exact hs x
  · split
    · next hb => exact ⟨hk.length (hs b).1, hk.counter (hs b).2⟩
    · exact hs x

/-- Settles O54: each of the four things a move makes of the banks keeps them. -/
theorem banksAndCountersAreKeptByEveryStep : Obligations.BanksAndCountersAreKeptByEveryStep :=
  fun _ _ h hs => step_keeps (fun _ h => h) (fun _ _ h => h) (fun _ _ _ => Move.banksKept) h hs

/-! ## Links -/

theorem Link.reset_bounded : Link.reset.bounded := ⟨Nat.zero_le _, Nat.zero_le _, nofun, by simp [Link.reset]⟩

theorem State.reset_linksKept : State.reset.linksKept := fun l => by
  rw [State.reset_link]
  exact Link.reset_bounded

theorem Move.linksKept (h : Move c s t) (hs : s.linksKept) : t.linksKept := by
  have hset : ∀ l k, ((s.link l).bounded → k.bounded) → (s.setLink l k).linksKept := fun l k hk m => by
    rw [State.link_setLink]
    split
    · exact hk (hs l)
    · exact hs m
  have hsame : ∀ u : State, (∀ l, u.link l = s.link l) → u.linksKept := fun u hu l => by
    rw [hu]
    exact hs l
  cases h with
  | coldReset hc => exact State.reset_linksKept
  | warmReset hc => exact State.reset_linksKept
  | registers h => exact hsame _ fun l => by rw [h.frame]; rfl
  | ports h => exact hsame _ fun l => by rw [h.frame]; rfl
  | links h => exact fun l => h.bounded l (hs l)
  | linkReset l k hc hk hdown => exact hset l k hk
  | requesterUp p k u hk hup hu hresponses hcap => exact hset _ k hk
  | requesterDown p k hk hdown => exact fun l => by rw [State.discardPort_link]; exact hset _ k hk l
  | abandon i u d a hlate htarget => exact hsame _ fun l => by simp [State.link]
  | complete i a hstate => exact hsame _ fun l => by simp [State.link]
  | cutOff hub cut sel st hsel hhub => exact hsame _ fun l => State.cutOffWhere_link ..
  | target | bank | queue | issue | late | reclaim => exact hsame _ fun _ => rfl

/-- Settles O57. -/
theorem linksAreKeptByEveryStep : Obligations.LinksAreKeptByEveryStep :=
  fun _ _ h hs => step_keeps (fun _ h => h) (fun _ _ h => h) (fun _ _ _ => Move.linksKept) h hs

/-! ## Settings, the active table and target credits -/

theorem State.cutOffWhere_target (hub : HubState) (cut : TP → Bool) (sel : Entry → Bool) (st : Status) (u : TP) :
    (s.cutOffWhere hub cut sel st).target u = if cut u then (s.target u).cutOff else s.target u := look_tab _ u

theorem State.cutOffWhere_port (hub : HubState) (cut : TP → Bool) (sel : Entry → Bool) (st : Status) (q : RP) :
    (s.cutOffWhere hub cut sel st).port q =
      { s.port q with responses := (s.port q).responses ++ s.endAnswers sel st q } := look_tab _ q

/-- What a move other than a reset makes of a target unit's limit, credits and return to DOWN. -/
theorem Move.targetUnit (h : Move c s t) (hreset : ¬Resets c t) (u : TP) :
    ((t.target u).fenceLimit = (s.target u).fenceLimit ∨ (1 ≤ (t.target u).fenceLimit ∧ (t.target u).fenceLimit ≤ 15)) ∧
    ((s.target u).credits ≤ 16 ∧ (s.target u).advertisement ≤ 16 →
      (t.target u).credits ≤ 16 ∧ (t.target u).advertisement ≤ 16) ∧
    ((s.target u).state ≠ .down → (t.target u).state ≠ .down) := by
  have hsame : ∀ v : State, v.target u = s.target u →
      ((v.target u).fenceLimit = (s.target u).fenceLimit ∨ (1 ≤ (v.target u).fenceLimit ∧ (v.target u).fenceLimit ≤ 15)) ∧
      ((s.target u).credits ≤ 16 ∧ (s.target u).advertisement ≤ 16 →
        (v.target u).credits ≤ 16 ∧ (v.target u).advertisement ≤ 16) ∧
      ((s.target u).state ≠ .down → (v.target u).state ≠ .down) := fun v hv => by
    rw [hv]
    exact ⟨.inl rfl, id, id⟩
  cases h with
  | coldReset hc => exact absurd ⟨.inl hc, _, _, _, _, _, rfl⟩ hreset
  | warmReset hc => exact absurd ⟨.inr hc, _, _, _, _, _, rfl⟩ hreset
  | registers h => exact hsame _ (by rw [h.frame]; rfl)
  | ports h => exact hsame _ (by rw [h.frame]; rfl)
  | links h => exact hsame _ (by rw [h.frame]; rfl)
  | target x k h =>
    rw [State.target_setTarget]
    split
    · next hx => subst hx; exact ⟨h.limit, h.credits, h.up⟩
    · exact ⟨.inl rfl, id, id⟩
  | requesterDown p k hk hdown => exact hsame _ (by simp)
  | queue p x i cls kind tag a n data hfree hopen hlength hroom hhead =>
    rw [State.enqueue, State.target_setTarget]
    split
    · next hx => subst hx; exact ⟨.inl rfl, id, id⟩
    · exact ⟨.inl rfl, id, id⟩
  | issue x i data rest d hegress =>
    rw [State.target_setTarget]
    split
    · next hx => subst hx; exact ⟨.inl rfl, fun ⟨hc, ha⟩ => ⟨(Nat.sub_le _ _).trans hc, ha⟩, id⟩
    · exact ⟨.inl rfl, id, id⟩
  | abandon i x d a hlate htarget =>
    have hplace : ((s.setEntry i { s.entry i with state := .abandoned, deadline := some d }).placeFor (s.entry i) a).target u
        = s.target u := by simp [State.target]
    rw [State.target_setTarget]
    split
    · next hx => subst hx; exact ⟨.inl rfl, id, id⟩
    · exact hsame _ hplace
  | complete i a hstate => exact hsame _ (by simp [State.target])
  | reclaim i x habandoned htarget =>
    rw [State.lowerAbandon, State.target_setTarget]
    split
    · next hx => subst hx; exact ⟨.inl rfl, id, id⟩
    · exact ⟨.inl rfl, id, id⟩
  | cutOff hub cut sel st hsel hhub =>
    rw [State.cutOffWhere_target]
    split
    · exact ⟨.inl rfl, fun ⟨_, ha⟩ => ⟨Nat.zero_le _, ha⟩, fun _ => by simp [TargetPort.cutOff]⟩
    · exact ⟨.inl rfl, id, id⟩
  | bank | linkReset | requesterUp | late => exact hsame _ rfl

/-- What a move other than a reset makes of a cap (R38). -/
theorem Move.cap (h : Move c s t) (hreset : ¬Resets c t) (q : RP) :
    (t.port q).cap = (s.port q).cap ∨ (1 ≤ (t.port q).cap ∧ (t.port q).cap ≤ 32) := by
  cases h with
  | coldReset hc => exact absurd ⟨.inl hc, _, _, _, _, _, rfl⟩ hreset
  | warmReset hc => exact absurd ⟨.inr hc, _, _, _, _, _, rfl⟩ hreset
  | registers h => exact .inl (by rw [h.frame]; rfl)
  | ports h => exact (h.step q).cap
  | links h => exact .inl (by rw [h.frame]; rfl)
  | requesterUp p k u hk hup hu hresponses hcap =>
    rw [State.port_setPort]
    split
    · next hq => subst hq; exact .inl hcap
    · exact .inl rfl
  | requesterDown p k hk hdown =>
    rw [State.discardPort_port]
    split
    · next hq => subst hq; exact .inl rfl
    · exact .inl rfl
  | abandon i u d a hlate htarget => exact .inl (by rw [State.setTarget_port, State.placeFor_port]; rfl)
  | complete i a hstate => exact .inl (by rw [State.setEntry_port, State.placeFor_port])
  | cutOff hub cut sel st hsel hhub =>
    exact .inl (by rw [State.cutOffWhere_port])
  | target | bank | linkReset | queue | issue | late | reclaim => exact .inl rfl

theorem State.reset_settingsKept : State.reset.settingsKept := by
  refine ⟨by decide, by decide, by decide, fun p => ?_, fun t => ?_⟩
  · rw [State.reset_port]; decide
  · rw [State.reset_target]; decide

theorem State.reset_activeKept : State.reset.activeKept := by
  intro w
  simp [Window.reset]

theorem State.reset_targetCreditsKept : State.reset.targetCreditsKept := by
  intro t
  simp [TargetPort.reset]

theorem Move.settingsKept (h : Move c s t) (hs : s.settingsKept) : t.settingsKept := by
  by_cases hreset : Resets c t
  · exact hreset.meets fun _ _ _ _ _ => State.reset_settingsKept
  obtain ⟨hlease, hreclaim, hclasses, hcap, hlimit⟩ := hs
  have hregisters : (1 ≤ t.leaseMs ∧ t.leaseMs ≤ 1000) ∧ (1 ≤ t.reclaimMs ∧ t.reclaimMs ≤ 255) ∧
      ∀ i, 1 ≤ look t.classIntervals i ∧ look t.classIntervals i ≤ 4095 := by
    rcases h.resets_or.resolve_left hreset with h | h
    · refine ⟨h.lease.elim (fun h => h ▸ hlease) id, h.reclaim.elim (fun h => h ▸ hreclaim) id, fun i => ?_⟩
      exact (h.classes i).elim (fun h => h ▸ hclasses i) id
    · rw [h]
      exact ⟨hlease, hreclaim, hclasses⟩
  refine ⟨hregisters.1, hregisters.2.1, hregisters.2.2, fun p => ?_, fun u => ?_⟩
  · exact (h.cap hreset p).elim (fun h => h ▸ hcap p) id
  · exact (h.targetUnit hreset u).1.elim (fun h => h ▸ hlimit u) id

theorem Move.activeKept (h : Move c s t) (hs : s.activeKept) : t.activeKept := by
  rcases h.resets_or with h | h | h
  · exact h.meets fun _ _ _ _ _ => State.reset_activeKept
  · exact h.commits hs
  · rw [h]
    exact hs

theorem Move.targetCreditsKept (h : Move c s t) (hs : s.targetCreditsKept) : t.targetCreditsKept := by
  by_cases hreset : Resets c t
  · exact hreset.meets fun _ _ _ _ _ => State.reset_targetCreditsKept
  · exact fun u => (h.targetUnit hreset u).2.1 (hs u)

/-- Settles O58: registers, caps and target units are kept by every move. -/
theorem settingsTableAndTargetCreditsAreKeptByEveryStep : Obligations.SettingsTableAndTargetCreditsAreKeptByEveryStep := by
  intro s t h
  refine step_keeps (P := fun u => u.settingsKept ∧ u.activeKept ∧ u.targetCreditsKept) (fun _ h => h) (fun _ _ h => h)
    (fun c u v hmove ⟨hsettings, hactive, hcredits⟩ => ?_) h
  exact ⟨hmove.settingsKept hsettings, hmove.activeKept hactive, hmove.targetCreditsKept hcredits⟩

/-! ## What only some commands change -/

/-- R129, R135: only a reset takes the hub out of CONTAINED. -/
theorem Move.staysContained (h : Move c s t) (hreset : ¬Resets c t) (hs : s.hub = .contained) : t.hub = .contained := by
  cases h with
  | coldReset hc => exact absurd ⟨.inl hc, _, _, _, _, _, rfl⟩ hreset
  | warmReset hc => exact absurd ⟨.inr hc, _, _, _, _, _, rfl⟩ hreset
  | registers h => rw [h.frame]; exact hs
  | ports h => rw [h.frame]; exact hs
  | links h => rw [h.frame]; exact hs
  | requesterDown p k hk hdown => rw [State.discardPort_hub]; exact hs
  | abandon i u d a hlate htarget =>
    rw [State.setTarget_hub, State.placeFor]
    split <;> exact hs
  | complete i a hstate =>
    rw [State.setEntry_hub, State.placeFor]
    split <;> exact hs
  | cutOff hub cut sel st hsel hhub => exact hhub.elim (fun h => h.trans hs) fun h => h.1
  | target | bank | linkReset | requesterUp | queue | issue | late | reclaim => exact hs

/-- R87, R89: a FATAL record leaves its bank by POP or a cold reset alone. -/
theorem Move.keepsFatal (h : Move c s t) (hcold : c ≠ .coldReset) (hpop : ∀ p, c ≠ .pop p) {b : Bank} {r : Rec}
    (hr : r ∈ (s.bank b).records) (hfatal : r.severity = .fatal) : r ∈ (t.bank b).records := by
  rcases h.banks with ⟨hc, -⟩ | ⟨-, h⟩ | h | ⟨x, k, hk, h⟩
  · exact absurd hc hcold
  · rw [h]; exact hr
  · rw [h]; exact hr
  · rw [h]
    split
    · next hx => subst hx; exact hk.fatal hpop r hr hfatal
    · exact hr

/-- Settles O60: of the moves of a command that is no reset, the registers' change alone touches the table and the rights,
and each of them keeps containment and the states of the targets. -/
theorem whatOnlySomeCommandsChange : Obligations.WhatOnlySomeCommandsChange := by
  intro c s t h hcold
  have hmoves := exec_moves h
  refine ⟨fun hpop b r hr hfatal => ?fatal, fun hwarm => ?rest⟩
  case fatal =>
    exact hmoves.keeps (P := fun u => r ∈ (u.bank b).records) (fun u v hmove hu => hmove.keepsFatal hcold hpop hu hfatal) hr
  case rest =>
    have hreset : ∀ u, ¬Resets c u := fun u h => h.1.elim hcold hwarm
    have hregisters : ∀ {u v : State}, Move c u v →
        ((∀ p, c ≠ .commit p) → v.active = u.active ∧ v.version = u.version) ∧
        (u.rightsLock = true → v.rightsLock = true ∧ v.rights = u.rights) ∧
        ((∀ p, c ≠ .rightsWrite p) → v.rights = u.rights) := fun {u v} hmove => by
      rcases hmove.resets_or.resolve_left (hreset v) with h | h
      · exact ⟨h.table, h.lock, h.rights⟩
      · rw [h]
        exact ⟨fun _ => ⟨rfl, rfl⟩, fun h => ⟨h, rfl⟩, fun _ => rfl⟩
    have hlocked : s.rightsLock = true → t.rightsLock = true ∧ t.rights = s.rights := fun hs =>
      hmoves.keeps (P := fun u => u.rightsLock = true ∧ u.rights = s.rights)
        (fun u v hmove ⟨hlock, hrights⟩ => ((hregisters hmove).2.1 hlock).imp id fun h => h.trans hrights) ⟨hs, rfl⟩
    refine ⟨fun hc => ?table, ?hub, fun hs => (hlocked hs).1, fun u => ?down, fun hc => ?rights, fun hs => (hlocked hs).2⟩
    case table =>
      exact hmoves.keeps (P := fun u => u.active = s.active ∧ u.version = s.version)
        (fun u v hmove ⟨ha, hv⟩ => ((hregisters hmove).1 hc).imp (fun h => h.trans ha) fun h => h.trans hv) ⟨rfl, rfl⟩
    case hub =>
      exact hmoves.keeps (P := fun u => u.hub = .contained) fun u v hmove => hmove.staysContained (hreset v)
    case down =>
      exact hmoves.keeps (P := fun v => (v.target u).state ≠ .down) fun v w hmove =>
        (hmove.targetUnit (hreset w) u).2.2
    case rights =>
      exact hmoves.keeps (P := fun u => u.rights = s.rights)
        (fun u v hmove hu => ((hregisters hmove).2.2 hc).trans hu) rfl

end Sys2Proof.Machine
end

section
/-! SUPPORT. What every move keeps of the tracker, the egress queues, the targets and the requester ports. Settles O53, O55,
O56 and O59. -/

namespace Sys2Proof.Machine

variable {c : Instr} {s t : State}

/-! ## The tracker under a move -/

/-- An entry that a target waits for stands QUEUED in its egress queue. -/
def Entry.queuedFor (e : Entry) (u : TP) : Bool := e.state = .queued && e.target = some u

/-- An ABANDONED entry of target `u`. -/
def Entry.abandonedBy (e : Entry) (u : TP) : Bool := e.state = .abandoned && e.target = some u

/-- A deadline of a stage or of the reclaim runs on the entry (R35, R66). -/
def Entry.timed (e : Entry) : Prop := e.state = .issued ∨ e.state = .late ∨ e.state = .abandoned

theorem State.egressRefs_eq (u : TP) (i : Fin 32) : s.egressRefs u i = (s.target u).refs i := by
  refine congrArg (fun q => (s.target u).egress.countP q) (funext fun x => ?_)
  cases x <;> rfl

theorem State.egressKept_iff :
    s.egressKept ↔ (∀ u, (s.target u).egress.length ≤ 8) ∧
      ∀ u i, (s.target u).refs i = if (s.entry i).queuedFor u then 1 else 0 := by
  simp only [State.egressKept, State.egressRefs_eq, Entry.queuedFor, Bool.and_eq_true, decide_eq_true_eq]

theorem State.abandonKept_iff :
    s.abandonKept ↔ (∀ i, (s.entry i).state ≠ .free → (s.entry i).target ≠ none) ∧
      ∀ u, (s.target u).abandon = s.entries.toList.countP fun e => e.abandonedBy u := by
  simp only [State.abandonKept, countP_toList]
  rfl

/-! ### The reset state -/

theorem State.reset_egressKept : State.reset.egressKept := by
  rw [State.egressKept_iff]
  refine ⟨fun u => by rw [State.reset_target]; exact Nat.zero_le _, fun u i => ?_⟩
  rw [State.reset_target, State.reset_entry]
  rfl

theorem State.reset_deadlinesKept : State.reset.deadlinesKept := fun i => by
  rw [State.reset_entry]
  decide

theorem State.reset_abandonKept : State.reset.abandonKept := by
  refine ⟨fun i hi => absurd (by rw [State.reset_entry]; rfl) hi, fun u => ?_⟩
  simp [Entry.reset, TargetPort.reset]

theorem State.reset_cutOffKept : State.reset.cutOffKept := by
  refine ⟨fun u _ => ⟨fun i _ => ?_, ?_, ?_⟩, fun i hi => absurd (by rw [State.reset_entry]; rfl) hi, nofun⟩
  · rw [State.reset_entry]; rfl
  · rw [State.reset_target]; rfl
  · rw [State.reset_target]; rfl

/-! ### Entries and their places -/

/-- What names entry `i` in an egress queue is a QUEUED entry of that target (R48). -/
theorem State.egressKept.queued {u : TP} {i : Fin 32} {data : List Byte} {rest : List Place} (h : s.egressKept)
    (hegress : (s.target u).egress = .entry i data :: rest) : (s.entry i).state = .queued ∧ (s.entry i).target = some u := by
  have hrefs := (State.egressKept_iff.mp h).2 u i
  by_contra hnot
  have hfalse : (s.entry i).queuedFor u = false := by simpa [Entry.queuedFor] using hnot
  rw [hfalse, TargetPort.refs, hegress, List.countP_cons_of_pos (by simp [Place.names])] at hrefs
  simp at hrefs

/-- What the tracker, the egress queues and the targets keep together reads of two states the same. -/
structure SameTracker (s v : State) : Prop where
  hub : v.hub = s.hub
  target : ∀ u, v.target u = s.target u
  entry : ∀ i, (v.entry i).state = (s.entry i).state ∧ (v.entry i).target = (s.entry i).target ∧
    (v.entry i).deadline = (s.entry i).deadline

/-- Entry `i` becomes `e`, with the egress queue and the abandon count of its target. -/
structure EntryMove (s v : State) (i : Fin 32) (e : Entry) : Prop where
  entry : ∀ j, v.entry j = if i = j then e else s.entry j
  hub : v.hub = s.hub
  state : ∀ u, (v.target u).state = (s.target u).state
  length : ∀ u, (s.target u).egress.length ≤ 8 → (v.target u).egress.length ≤ 8
  refs : s.egressKept → ∀ u j,
    (v.target u).refs j = if i = j then (if e.queuedFor u then 1 else 0) else (s.target u).refs j
  deadline : e.deadline.isSome = true ↔ e.timed
  used : s.trackerKept → e.state ≠ .free → e.target ≠ none
  abandon : s.trackerKept → ∀ u, (v.target u).abandon + (if (s.entry i).abandonedBy u then 1 else 0) =
    (s.target u).abandon + (if e.abandonedBy u then 1 else 0)
  closed : s.trackerKept → ∀ u, (s.target u).state ≠ .opened →
    (e.target = some u → e.state = .free) ∧ (v.target u).egress = [] ∧ (v.target u).credits = 0

/-- What a move does to the tracker, the egress queues and the targets. -/
inductive TrackerMove (c : Instr) (s t : State) : Prop
  | reset (h : Resets c t)
  | same (h : SameTracker s t)
  | target (x : TP) (u : TargetPort) (h : TargetStep s x u) (ht : t = s.setTarget x u)
  | entry (i : Fin 32) (e : Entry) (h : EntryMove s t i e)
  | cutOff (hub : HubState) (cut : TP → Bool) (sel : Entry → Bool) (st : Status)
      (hsel : ∀ i u, (s.entry i).target = some u → (sel (s.entry i) = true ↔ cut u = true))
      (hhub : hub = s.hub ∨ (hub = .contained ∧ ∀ u, cut u = true)) (ht : t = s.cutOffWhere hub cut sel st)

section EntryMoves

variable {i : Fin 32} {x : TP}

/-- An entry in use stands at a target, which is OPEN (R118). -/
theorem State.trackerKept.open_of_used (h : s.trackerKept) (hused : (s.entry i).state ≠ .free)
    (htarget : (s.entry i).target = some x) : (s.target x).state = .opened := by
  obtain ⟨-, -, -, hclosed, -⟩ := h
  by_contra hnot
  exact hused ((hclosed x hnot).1 i htarget)

theorem State.trackerKept.target_of_used (h : s.trackerKept) (hused : (s.entry i).state ≠ .free) :
    (s.entry i).target ≠ none := by
  obtain ⟨-, -, habandon, -⟩ := h
  exact habandon.1 i hused

theorem State.trackerKept.closed_of (h : s.trackerKept) (hnot : (s.target x).state ≠ .opened) :
    (s.target x).egress = [] ∧ (s.target x).credits = 0 := by
  obtain ⟨-, -, -, hclosed, -⟩ := h
  exact (hclosed x hnot).2

theorem TargetPort.refs_append (u : TargetPort) (l : List Place) (j : Fin 32) :
    TargetPort.refs { u with egress := u.egress ++ l } j = u.refs j + l.countP (Place.names j) := List.countP_append

/-- R44, R48: a FREE entry that is granted stands in the egress queue of its target. -/
theorem EntryMove.queue {p : RP} {cls : Fin 4} {kind : MemKind} {tag : Tag} {a : Address} {n : Nat} {data : List Byte}
    (hfree : (s.entry i).state = .free) (hopen : (s.target x).state = .opened) (hlength : (s.target x).egress.length < 8) :
    EntryMove s ((s.setEntry i ((s.entry i).granted p x cls kind tag a n)).enqueue x (.entry i data)) i
      ((s.entry i).granted p x cls kind tag a n) := by
  have htarget : ∀ u, (((s.setEntry i ((s.entry i).granted p x cls kind tag a n)).enqueue x (.entry i data)).target u) =
      if x = u then { s.target x with egress := (s.target x).egress ++ [.entry i data] } else s.target u :=
    fun u => State.target_setTarget ..
  refine ⟨fun j => State.entry_setEntry .., rfl, fun u => ?_, fun u hu => ?_, fun hkept u j => ?_, ?_, fun _ _ => ?_,
    fun _ u => ?_, fun hkept u hu => ?_⟩
  · rw [htarget]
    split <;> simp_all
  · rw [htarget]
    split
    · simpa using hlength
    · exact hu
  · have hrefs := (State.egressKept_iff.mp hkept).2 u i
    have hnone : (s.entry i).queuedFor u = false := by simp [Entry.queuedFor, hfree]
    rw [hnone] at hrefs
    rw [htarget]
    by_cases hx : x = u <;> by_cases hj : i = j
    · subst hx hj
      rw [if_pos rfl, TargetPort.refs_append, hrefs]
      simp [Place.names, Entry.queuedFor, Entry.granted]
    · subst hx
      rw [if_pos rfl, TargetPort.refs_append]
      simp [Place.names, hj]
    · subst hj
      rw [if_neg hx, hrefs]
      simp [Entry.queuedFor, Entry.granted, hx]
    · simp [hx, hj]
  · simp [Entry.granted, Entry.timed]
  · simp [Entry.granted]
  · rw [htarget]
    split <;> simp_all [Entry.abandonedBy, Entry.granted]
  · have hne : x ≠ u := fun h => hu (h ▸ hopen)
    rw [htarget, if_neg hne]
    exact ⟨fun h => absurd (Option.some.inj h) hne, hkept.closed_of hu⟩

/-- R50: the entry at the head of an egress queue leaves it and becomes ISSUED. -/
theorem EntryMove.issue {data : List Byte} {rest : List Place} {d : Nat}
    (hegress : (s.target x).egress = .entry i data :: rest) :
    EntryMove s ((s.setEntry i { s.entry i with state := .issued, deadline := some d }).setTarget x
      { s.target x with egress := rest, credits := (s.target x).credits - 1 }) i
      { s.entry i with state := .issued, deadline := some d } := by
  have htarget : ∀ u, (((s.setEntry i { s.entry i with state := .issued, deadline := some d }).setTarget x
      { s.target x with egress := rest, credits := (s.target x).credits - 1 }).target u) =
      if x = u then { s.target x with egress := rest, credits := (s.target x).credits - 1 } else s.target u :=
    fun u => State.target_setTarget ..
  refine ⟨fun j => State.entry_setEntry .., rfl, fun u => ?_, fun u hu => ?_, fun hkept u j => ?_, ?_, fun hkept _ => ?_,
    fun hkept u => ?_, fun hkept u hu => ?_⟩
  · rw [htarget]
    split <;> simp_all
  · rw [htarget]
    split
    · next hx =>
      subst hx
      rw [hegress] at hu
      exact (Nat.le_succ _).trans hu
    · exact hu
  · have hissued : Entry.queuedFor { s.entry i with state := .issued, deadline := some d } u = false := by
      simp [Entry.queuedFor]
    obtain ⟨hqueued, hat⟩ := hkept.queued hegress
    have hrefs := (State.egressKept_iff.mp hkept).2 u i
    rw [htarget, hissued]
    by_cases hx : x = u
    · subst hx
      have hcount : (s.target x).refs j = rest.countP (Place.names j) + if i = j then 1 else 0 := by
        rw [TargetPort.refs, hegress, List.countP_cons]
        simp [Place.names]
      have hnow : TargetPort.refs { s.target x with egress := rest, credits := (s.target x).credits - 1 } j =
          rest.countP (Place.names j) := rfl
      have hone : (s.entry i).queuedFor x = true := by simp [Entry.queuedFor, hqueued, hat]
      rw [hone, if_pos rfl] at hrefs
      rw [if_pos rfl, hnow]
      by_cases hj : i = j
      · subst hj
        simp_all
      · simp_all
    · have hzero : (s.entry i).queuedFor u = false := by simp [Entry.queuedFor, hat, hx]
      rw [hzero] at hrefs
      rw [if_neg hx]
      by_cases hj : i = j
      · subst hj
        simpa using hrefs
      · simp [hj]
  · simp [Entry.timed]
  · obtain ⟨-, hat⟩ := hkept.1.queued hegress
    simp [hat]
  · obtain ⟨hqueued, -⟩ := hkept.1.queued hegress
    rw [htarget]
    split <;> simp_all [Entry.abandonedBy]
  · obtain ⟨hqueued, hat⟩ := hkept.1.queued hegress
    have hopen := hkept.open_of_used (by rw [hqueued]; nofun) hat
    have hne : x ≠ u := fun h => hu (h ▸ hopen)
    rw [htarget, if_neg hne]
    exact ⟨fun h => absurd (Option.some.inj (hat.symm.trans h)) hne, hkept.closed_of hu⟩

/-- An entry that stands in no egress queue takes another state in which it stands in none, with its target's abandon
count. -/
theorem EntryMove.ofWaiting {v : State} {e : Entry} {n : TP → Nat} (hentry : ∀ j, v.entry j = if i = j then e else s.entry j)
    (hhub : v.hub = s.hub) (htarget : ∀ u, v.target u = { s.target u with abandon := n u })
    (hold : (s.entry i).state ≠ .queued) (hnew : e.state ≠ .queued) (hat : e.target = (s.entry i).target)
    (hdeadline : e.deadline.isSome = true ↔ e.timed) (hused : (s.entry i).state ≠ .free)
    (habandon : s.trackerKept → ∀ u, n u + (if (s.entry i).abandonedBy u then 1 else 0) =
      (s.target u).abandon + (if e.abandonedBy u then 1 else 0)) : EntryMove s v i e := by
  refine ⟨hentry, hhub, fun u => by rw [htarget], fun u hu => by rwa [htarget], fun hkept u j => ?_, hdeadline,
    fun hkept _ => ?_, fun hkept u => ?_, fun hkept u hu => ?_⟩
  · have hsame : (v.target u).refs j = (s.target u).refs j := by rw [htarget]; rfl
    have hrefs := (State.egressKept_iff.mp hkept).2 u j
    rw [hsame]
    split
    · next hj =>
      subst hj
      simpa [Entry.queuedFor, hold, hnew] using hrefs
    · rfl
  · rw [hat]
    exact hkept.target_of_used hused
  · rw [htarget]
    exact habandon hkept u
  · rw [htarget]
    refine ⟨fun h => absurd (hkept.open_of_used hused (hat ▸ h)) hu, ?_⟩
    exact hkept.closed_of hu

/-- A count of entries that holds a counted one is not 0, so that lowering it by 1 undoes a raise. -/
theorem State.trackerKept.abandon_pos (h : s.trackerKept) (habandoned : (s.entry i).abandonedBy x = true) :
    0 < (s.target x).abandon := by
  obtain ⟨-, -, habandon, -⟩ := h
  rw [(State.abandonKept_iff.mp habandon).2 x, List.countP_pos_iff]
  refine ⟨s.entry i, ?_, habandoned⟩
  simp [State.entry, look]

end EntryMoves

theorem Move.tracker (h : Move c s t) : TrackerMove c s t := by
  cases h with
  | coldReset hc => exact .reset ⟨.inl hc, _, _, _, _, _, rfl⟩
  | warmReset hc => exact .reset ⟨.inr hc, _, _, _, _, _, rfl⟩
  | target u k h => exact .target u k h rfl
  | cutOff hub cut sel st hsel hhub => exact .cutOff hub cut sel st hsel hhub rfl
  | registers h => exact .same (by rw [h.frame]; exact ⟨rfl, fun _ => rfl, fun _ => ⟨rfl, rfl, rfl⟩⟩)
  | ports h => exact .same (by rw [h.frame]; exact ⟨rfl, fun _ => rfl, fun _ => ⟨rfl, rfl, rfl⟩⟩)
  | links h => exact .same (by rw [h.frame]; exact ⟨rfl, fun _ => rfl, fun _ => ⟨rfl, rfl, rfl⟩⟩)
  | requesterDown p k hk hdown =>
    exact .same ⟨by simp, fun u => by simp, fun i => by simp⟩
  | bank | linkReset | requesterUp => exact .same ⟨rfl, fun _ => rfl, fun _ => ⟨rfl, rfl, rfl⟩⟩
  | queue p u i cls kind tag a n data hfree hopen hlength hroom hhead => exact .entry i _ (.queue hfree hopen hlength)
  | issue u i data rest d hegress => exact .entry i _ (.issue hegress)
  | late i d hissued =>
    refine .entry i _ (.ofWaiting (n := fun u => (s.target u).abandon) (fun j => State.entry_setEntry ..) rfl
      (fun _ => rfl) ?_ nofun rfl ?_ ?_ fun _ u => ?_)
    · simp [hissued]
    · simp [Entry.timed]
    · simp [hissued]
    · simp [Entry.abandonedBy, hissued]
  | abandon i u d a hlate htarget =>
    refine .entry i { s.entry i with state := .abandoned, deadline := some d }
      (.ofWaiting (n := fun x => if u = x then (s.target u).abandon + 1 else (s.target x).abandon)
      (fun j => ?_) ?_ (fun x => ?_) ?_ nofun rfl ?_ ?_ fun _ x => ?_)
    · simp [State.entry, State.setEntry, look_upd]
    · rw [State.setTarget_hub, State.placeFor]
      split <;> rfl
    · rw [State.target_setTarget]
      by_cases hx : u = x
      · subst hx; simp
      · simp [hx, State.target]
    · simp [hlate]
    · simp [Entry.timed]
    · simp [hlate]
    · by_cases hx : u = x
      · subst hx; simp [Entry.abandonedBy, hlate, htarget]
      · simp [Entry.abandonedBy, hlate, htarget, hx]
  | complete i a hstate =>
    have hnot : (s.entry i).state ≠ .queued ∧ (s.entry i).state ≠ .free ∧ (s.entry i).state ≠ .abandoned := by
      rcases hstate with h | h <;> simp [h]
    obtain ⟨hqueued, hused, habandoned⟩ := hnot
    refine .entry i (s.entry i).freed (.ofWaiting (n := fun u => (s.target u).abandon) (fun j => ?_) ?_ (fun u => ?_) hqueued
      nofun rfl ?_ hused fun _ u => ?_)
    · simp [State.entry, State.setEntry, look_upd]
    · rw [State.setEntry_hub, State.placeFor]
      split <;> rfl
    · simp [State.target]
    · simp [Entry.freed, Entry.timed]
    · simp [Entry.abandonedBy, habandoned, Entry.freed]
  | reclaim i u habandoned htarget =>
    refine .entry i (s.entry i).freed
      (.ofWaiting (n := fun x => if u = x then (s.target u).abandon - 1 else (s.target x).abandon)
      (fun j => State.entry_setEntry ..) rfl (fun x => ?_) ?_ nofun rfl ?_ ?_ fun hkept x => ?_)
    · rw [State.lowerAbandon, State.target_setTarget]
      by_cases hx : u = x
      · subst hx; simp
      · simp [hx]
    · simp [habandoned]
    · simp [Entry.freed, Entry.timed]
    · simp [habandoned]
    · by_cases hx : u = x
      · subst hx
        have hby : (s.entry i).abandonedBy u = true := by simp [Entry.abandonedBy, habandoned, htarget]
        have hpos := hkept.abandon_pos hby
        have hfreed : (s.entry i).freed.abandonedBy u = false := by simp [Entry.abandonedBy, Entry.freed]
        simp only [hby, hfreed, if_true, Bool.false_eq_true, if_false]
        omega
      · simp [Entry.abandonedBy, htarget, hx, Entry.freed]

/-! ## The tracker invariants -/

section CutOff

variable {hub : HubState} {cut : TP → Bool} {sel : Entry → Bool} {st : Status} {i : Fin 32}

theorem State.cutOffWhere_entry :
    (s.cutOffWhere hub cut sel st).entry i =
      if sel (s.entry i) && (s.entry i).state ≠ .free then (s.entry i).freed else s.entry i := by
  rw [← State.endEntries_entry s sel st i]
  simp only [State.cutOffWhere, State.entry]

theorem State.cutOffWhere_abandon (u : TP) :
    ((s.cutOffWhere hub cut sel st).target u).abandon = if cut u then 0 else (s.target u).abandon := by
  rw [State.cutOffWhere_target]
  split <;> rfl

/-- A cutting off ends the entries in use of the targets it cuts off and no other. -/
theorem State.cutOffWhere_counted {q : Entry → Bool} {u : TP}
    (hq : ∀ e, q e = true → e.state ≠ .free ∧ e.target = some u)
    (hsel : ∀ i u, (s.entry i).target = some u → (sel (s.entry i) = true ↔ cut u = true)) :
    q ((s.cutOffWhere hub cut sel st).entry i) = (q (s.entry i) && !cut u) := by
  have hfreed : q (s.entry i).freed = false := by
    by_contra h
    exact (hq _ (Bool.not_eq_false _ ▸ h)).1 rfl
  rw [State.cutOffWhere_entry]
  cases hqi : q (s.entry i) with
  | false => split <;> simp [hfreed, hqi]
  | true =>
    obtain ⟨hused, hat⟩ := hq _ hqi
    have hboth := hsel i u hat
    cases hcut : cut u <;> simp_all

end CutOff

theorem Entry.queuedFor_used {u : TP} (e : Entry) (h : e.queuedFor u = true) : e.state ≠ .free ∧ e.target = some u := by
  simp only [Entry.queuedFor, Bool.and_eq_true, decide_eq_true_eq] at h
  exact ⟨by simp [h.1], h.2⟩

theorem Entry.abandonedBy_used {u : TP} (e : Entry) (h : e.abandonedBy u = true) : e.state ≠ .free ∧ e.target = some u := by
  simp only [Entry.abandonedBy, Bool.and_eq_true, decide_eq_true_eq] at h
  exact ⟨by simp [h.1], h.2⟩

/-- R48: entries and egress queues keep to each other. -/
theorem Move.egressKept (h : Move c s t) (hs : s.egressKept) : t.egressKept := by
  obtain ⟨hlength, hrefs⟩ := State.egressKept_iff.mp hs
  cases h.tracker with
  | reset h => exact h.meets fun _ _ _ _ _ => State.reset_egressKept
  | same hsame =>
    rw [State.egressKept_iff]
    refine ⟨fun u => by rw [hsame.target]; exact hlength u, fun u i => ?_⟩
    obtain ⟨hstate, htarget, -⟩ := hsame.entry i
    rw [hsame.target, hrefs, Entry.queuedFor, Entry.queuedFor, hstate, htarget]
  | target x k hk ht =>
    subst ht
    rw [State.egressKept_iff]
    refine ⟨fun u => ?_, fun u i => ?_⟩
    · rw [State.target_setTarget]
      split
      · exact hk.length.elim id fun h => h.trans (hlength x)
      · exact hlength u
    · rw [State.target_setTarget]
      split
      · next hx =>
        subst hx
        exact (hk.refs i).trans (hrefs x i)
      · exact hrefs u i
  | entry i e he =>
    rw [State.egressKept_iff]
    refine ⟨fun u => he.length u (hlength u), fun u j => ?_⟩
    rw [he.refs hs, he.entry]
    split
    · rfl
    · exact hrefs u j
  | cutOff hub cut sel st hsel hhub ht =>
    subst ht
    rw [State.egressKept_iff]
    refine ⟨fun u => ?_, fun u i => ?_⟩
    · rw [State.cutOffWhere_target]
      split
      · exact Nat.zero_le _
      · exact hlength u
    · rw [State.cutOffWhere_target, State.cutOffWhere_counted Entry.queuedFor_used hsel]
      cases hcut : cut u with
      | true => simp [TargetPort.cutOff, TargetPort.refs]
      | false => simpa using hrefs u i

/-- R35, R66: a deadline stands exactly in the states that run to one. -/
theorem Move.deadlinesKept (h : Move c s t) (hs : s.deadlinesKept) : t.deadlinesKept := by
  cases h.tracker with
  | reset h => exact h.meets fun _ _ _ _ _ => State.reset_deadlinesKept
  | same hsame =>
    intro i
    obtain ⟨hstate, -, hdeadline⟩ := hsame.entry i
    rw [hstate, hdeadline]
    exact hs i
  | target x k hk ht =>
    subst ht
    exact hs
  | entry i e he =>
    intro j
    rw [he.entry]
    split
    · exact he.deadline
    · exact hs j
  | cutOff hub cut sel st hsel hhub ht =>
    subst ht
    intro i
    rw [State.cutOffWhere_entry]
    split
    · simp [Entry.freed]
    · exact hs i

/-- R35, R69: a target's abandon count is the number of its ABANDONED entries. -/
theorem Move.abandonKept (h : Move c s t) (hs : s.trackerKept) : t.abandonKept := by
  have hkept := hs
  obtain ⟨-, -, habandon, -⟩ := hkept
  obtain ⟨hused, hcount⟩ := State.abandonKept_iff.mp habandon
  cases h.tracker with
  | reset h => exact h.meets fun _ _ _ _ _ => State.reset_abandonKept
  | same hsame =>
    refine ⟨fun i => ?_, fun u => ?_⟩
    · obtain ⟨hstate, htarget, -⟩ := hsame.entry i
      rw [hstate, htarget]
      exact hused i
    · rw [hsame.target, habandon.2 u]
      refine congrArg List.length (List.filter_congr fun i _ => ?_)
      obtain ⟨hstate, htarget, -⟩ := hsame.entry i
      rw [hstate, htarget]
  | target x k hk ht =>
    subst ht
    refine ⟨hused, fun u => ?_⟩
    rw [State.target_setTarget]
    split
    · next hx =>
      subst hx
      exact hk.abandon.trans (habandon.2 x)
    · exact habandon.2 u
  | entry i e he =>
    rw [State.abandonKept_iff]
    refine ⟨fun j => ?_, fun u => ?_⟩
    · rw [he.entry]
      split
      · exact he.used hs
      · exact hused j
    · have hstep := he.abandon hs u
      have hupd : t.entries = upd s.entries i e := by
        refine bank_ext fun j => ?_
        rw [look_upd]
        exact he.entry j
      have hcounts := countP_upd (fun e => e.abandonedBy u) s.entries i e
      have hold : look s.entries i = s.entry i := rfl
      rw [hold] at hcounts
      rw [hupd]
      rw [hcount u] at hstep
      omega
  | cutOff hub cut sel st hsel hhub ht =>
    subst ht
    rw [State.abandonKept_iff]
    refine ⟨fun i => ?_, fun u => ?_⟩
    · rw [State.cutOffWhere_entry]
      split
      · exact fun h => absurd rfl h
      · exact hused i
    · have hlook : ∀ i, (look (s.cutOffWhere hub cut sel st).entries i).abandonedBy u =
          ((look s.entries i).abandonedBy u && !cut u) := fun i =>
        State.cutOffWhere_counted (q := fun e => e.abandonedBy u) (i := i) Entry.abandonedBy_used hsel
      rw [State.cutOffWhere_abandon, hcount u, countP_toList, countP_toList]
      cases hcut : cut u with
      | true => simp [hlook, hcut]
      | false => simp [hlook, hcut]

/-- R118, R129: a target that is not OPEN holds nothing, and while the hub is CONTAINED every target is FENCED. -/
theorem Move.cutOffKept (h : Move c s t) (hs : s.trackerKept) : t.cutOffKept := by
  have hkept := hs
  obtain ⟨-, -, habandon, hclosed, hused, hcontained⟩ := hkept
  cases h.tracker with
  | reset h => exact h.meets fun _ _ _ _ _ => State.reset_cutOffKept
  | same hsame =>
    refine ⟨fun u hu => ?_, fun i => ?_, fun hc u => ?_⟩
    · rw [hsame.target] at hu ⊢
      obtain ⟨hentries, hrest⟩ := hclosed u hu
      refine ⟨fun i => ?_, hrest⟩
      obtain ⟨hstate, htarget, -⟩ := hsame.entry i
      rw [hstate, htarget]
      exact hentries i
    · obtain ⟨hstate, htarget, -⟩ := hsame.entry i
      rw [hstate, htarget]
      exact hused i
    · rw [hsame.target]
      exact hcontained (hsame.hub ▸ hc) u
  | target x k hk ht =>
    subst ht
    refine ⟨fun u hu => ?_, hused, fun hc u => ?_⟩
    · rw [State.target_setTarget] at hu ⊢
      split at hu
      · next hx =>
        subst hx
        obtain ⟨hnot, hegress, hcredits⟩ := hk.closed hu
        rw [if_pos rfl, hegress, hcredits]
        exact hclosed x hnot
      · next hx =>
        rw [if_neg hx]
        exact hclosed u hu
    · rw [State.target_setTarget]
      split
      · next hx => exact hk.contained hc (hcontained hc x)
      · exact hcontained hc u
  | entry i e he =>
    refine ⟨fun u hu => ?_, fun j => ?_, fun hc u => ?_⟩
    · rw [he.state] at hu
      obtain ⟨hfree, hrest⟩ := he.closed hs u hu
      refine ⟨fun j => ?_, hrest⟩
      rw [he.entry]
      split
      · exact hfree
      · exact (hclosed u hu).1 j
    · rw [he.entry]
      split
      · exact he.used hs
      · exact hused j
    · rw [he.state]
      exact hcontained (he.hub ▸ hc) u
  | cutOff hub cut sel st hsel hhub ht =>
    subst ht
    have hentry : ∀ i, ((s.cutOffWhere hub cut sel st).entry i).target = (s.entry i).target := fun i => by
      rw [State.cutOffWhere_entry]
      split <;> rfl
    have hstays : ∀ i, (s.entry i).state = .free → ((s.cutOffWhere hub cut sel st).entry i).state = .free :=
      fun i hi => by
        rw [State.cutOffWhere_entry]
        split
        · rfl
        · exact hi
    refine ⟨fun u hu => ?_, fun i => ?_, fun hc u => ?_⟩
    · rw [State.cutOffWhere_target] at hu ⊢
      cases hcut : cut u with
      | true =>
        refine ⟨fun i hi => ?_, rfl, rfl⟩
        by_cases hfree : (s.entry i).state = .free
        · exact hstays i hfree
        · rw [hentry] at hi
          rw [State.cutOffWhere_entry, if_pos (by simp [hfree, (hsel i u hi).mpr hcut])]
          rfl
      | false =>
        rw [hcut] at hu
        obtain ⟨hentries, hrest⟩ := hclosed u hu
        exact ⟨fun i hi => hstays i (hentries i (hentry i ▸ hi)), hrest⟩
    · rw [hentry]
      exact fun h => hused i (mt (hstays i) h)
    · rw [State.cutOffWhere_target]
      rcases hhub with h | ⟨-, hall⟩
      · split
        · rfl
        · exact hcontained (h ▸ hc) u
      · rw [if_pos (hall u)]
        rfl

/-- Settles O55: a move changes the tracker, the egress queues and the targets in one of five ways, each of which keeps them
together. -/
theorem trackerAndTargetsAreKeptByEveryStep : Obligations.TrackerAndTargetsAreKeptByEveryStep :=
  fun _ _ h hs => step_keeps (fun _ h => h) (fun _ _ h => h)
    (fun _ _ _ hmove hu => ⟨hmove.egressKept hu.1, hmove.deadlinesKept hu.2.1, hmove.abandonKept hu, hmove.cutOffKept hu⟩) h hs

/-! ## The room of the response queues -/

theorem State.reset_roomKept : State.reset.roomKept := fun p => by
  rw [State.reset_heldCount, State.reset_port]
  exact Nat.zero_le _

/-- What the answers waiting for a port and the entries it is owed make of its response queue. -/
def State.load (s : State) (p : RP) : Nat := (s.port p).responses.length + s.heldCount p

/-- A live entry that changes its state and stays live counts for its port as it did. -/
theorem State.heldCount_setEntry_live {i : Fin 32} {e : Entry} (hold : (s.entry i).live = true) (hnew : e.live = true)
    (hport : e.port = (s.entry i).port) (p : RP) : (s.setEntry i e).heldCount p = s.heldCount p := by
  have h := s.heldCount_setEntry i e p
  simp only [Entry.heldBy, hold, hnew, hport] at h
  omega

/-- A live entry that is live no more makes room for its one answer. -/
theorem State.load_answered {i : Fin 32} {e : Entry} {v : State} (p : RP) (a : Answer) (hold : (s.entry i).live = true)
    (hnew : e.live = false) (hentries : v.entries = (s.setEntry i e).entries)
    (hport : (v.port p).responses = (s.port p).responses ++ if (s.entry i).lost = false ∧ (s.entry i).port = p then [a] else []) :
    v.load p ≤ s.load p := by
  have h := s.heldCount_setEntry i e p
  rw [State.load, State.load, hport, State.heldCount_congr hentries, List.length_append]
  simp only [Entry.heldBy, hold, hnew, Bool.true_and, Bool.false_and, decide_eq_true_eq, Bool.false_eq_true, if_false] at h
  by_cases hp : (s.entry i).port = p
  · rw [if_pos hp] at h
    split <;> simp only [List.length_cons, List.length_nil] <;> omega
  · simp only [hp, if_false, and_false, List.length_nil] at h ⊢
    omega

/-- R145: every move but a reset leaves the load of a port as it was or lower, or has room for one more. -/
theorem Move.load_le (h : Move c s t) (hegress : s.egressKept) (hreset : ¬Resets c t) (p : RP) :
    t.load p ≤ s.load p ∨ (s.hasRoom p ∧ t.load p ≤ s.load p + 1) := by
  cases h with
  | coldReset hc => exact absurd ⟨.inl hc, _, _, _, _, _, rfl⟩ hreset
  | warmReset hc => exact absurd ⟨.inr hc, _, _, _, _, _, rfl⟩ hreset
  | registers h => exact .inl (by rw [h.frame]; exact le_rfl)
  | links h => exact .inl (by rw [h.frame]; exact le_rfl)
  | ports h =>
    have hheld : t.heldCount p = s.heldCount p := by rw [h.frame]; rfl
    rw [State.load, State.load, hheld]
    exact (h.step p).load.imp (Nat.add_le_add_right · _) fun h => h.imp_right fun h => by omega
  | requesterUp q k u hk hup hu hresponses hcap =>
    refine .inl (Nat.add_le_add ?_ le_rfl)
    rw [State.port_setPort]
    split
    · simp [hresponses]
    · exact le_rfl
  | requesterDown q k hk hdown =>
    have hheld : ((s.setLink (.rp q) k).discardPort q).heldCount p = s.heldCount p := by
      simp only [State.heldCount, countP_toList]
      refine congrArg List.length (List.filter_congr fun i _ => ?_)
      have hentry := (s.setLink (.rp q) k).discardPort_entry q i
      rw [State.entry, State.entry] at hentry
      rw [hentry]
      rfl
    refine .inl ?_
    rw [State.load, State.load, hheld, State.discardPort_port]
    refine Nat.add_le_add ?_ le_rfl
    split
    · exact Nat.zero_le _
    · exact le_rfl
  | queue q u i cls kind tag a n data hfree hopen hlength hroom hhead =>
    by_cases hq : q = p
    · subst hq
      have hheld := State.heldCount_setEntry_granted (s := s) (p := q) (t := u) (cls := cls) (a := a) (n := n) hfree kind tag
      exact .inr ⟨hroom, Nat.add_le_add_left hheld.le _⟩
    · have hheld := s.heldCount_setEntry i ((s.entry i).granted q u cls kind tag a n) p
      have hnot : ((s.entry i).granted q u cls kind tag a n).heldBy p = false := by
        simp [Entry.heldBy, Entry.granted, hq]
      rw [hnot] at hheld
      exact .inl (Nat.add_le_add_left (Nat.le.intro hheld) _)
  | issue u i data rest d hhead =>
    obtain ⟨hqueued, -⟩ := hegress.queued hhead
    have hlive : (s.entry i).live = true := by simp [Entry.live, hqueued]
    have hheld := State.heldCount_setEntry_live (e := { s.entry i with state := .issued, deadline := some d }) hlive rfl rfl p
    exact .inl (Nat.add_le_add_left hheld.le _)
  | late i d hissued =>
    have hlive : (s.entry i).live = true := by simp [Entry.live, hissued]
    have hheld := State.heldCount_setEntry_live (e := { s.entry i with state := .late, deadline := some d }) hlive rfl rfl p
    exact .inl (Nat.add_le_add_left hheld.le _)
  | abandon i u d a hlate htarget =>
    refine .inl (State.load_answered (i := i) (e := { s.entry i with state := .abandoned, deadline := some d }) p a
      (by simp [Entry.live, hlate]) rfl ?_ ?_)
    · rw [State.setTarget_entries, State.placeFor_entries]
    · rw [State.setTarget_port, State.placeFor_port]; rfl
  | complete i a hstate =>
    refine .inl (State.load_answered (i := i) (e := (s.entry i).freed) p a ?_ rfl ?_ ?_)
    · rcases hstate with h | h <;> simp [Entry.live, h]
    · simp only [State.setEntry, State.placeFor_entries]
    · rw [State.setEntry_port, State.placeFor_port]
  | reclaim i u habandoned htarget =>
    refine .inl (Nat.add_le_add_left ?_ _)
    have hheld := s.heldCount_setEntry i (s.entry i).freed p
    have hnew : (s.entry i).freed.heldBy p = false := by simp [Entry.heldBy, Entry.freed, Entry.live]
    rw [hnew] at hheld
    exact Nat.le.intro hheld
  | cutOff hub cut sel st hsel hhub =>
    have hload := s.endEntries_load_le sel st p
    have hheld : (s.cutOffWhere hub cut sel st).heldCount p = (s.endEntries sel st).heldCount p :=
      State.heldCount_congr (by simp only [State.cutOffWhere]) p
    refine .inl ?_
    rw [State.load, State.load, State.cutOffWhere_port, hheld, List.length_append]
    omega
  | target | bank | linkReset => exact .inl le_rfl

theorem Move.roomKept (h : Move c s t) (hegress : s.egressKept) (hs : s.roomKept) : t.roomKept := by
  by_cases hreset : Resets c t
  · exact hreset.meets fun _ _ _ _ _ => State.reset_roomKept
  · intro p
    have hroom : s.load p ≤ 40 := hs p
    change t.load p ≤ 40
    rcases h.load_le hegress hreset p with hle | ⟨hlt, hle⟩
    · exact hle.trans hroom
    · have hless : s.load p < 40 := hlt
      omega

/-- Settles O53: along the moves of a step the egress queues name QUEUED entries alone, so that an entry sent was owed to its
port before. -/
theorem responseRoomIsKeptByEveryStep : Obligations.ResponseRoomIsKeptByEveryStep := by
  intro s t h hegress hroom
  exact (step_keeps (P := fun u => u.egressKept ∧ u.roomKept) (fun _ h => h) (fun _ _ h => h)
    (fun _ _ _ hmove ⟨he, hr⟩ => ⟨hmove.egressKept he, hmove.roomKept he hr⟩) h ⟨hegress, hroom⟩).2

/-! ## The credits and the emptiness of the requester ports -/

theorem State.reset_creditsKept : State.reset.creditsKept := fun p => by
  rw [State.reset_port, State.reset_link]
  exact ⟨nofun, le_rfl⟩

theorem State.reset_idleKept : State.reset.idleKept := fun p _ => by
  rw [State.reset_port]
  refine ⟨rfl, rfl, rfl, fun i => look_replicate _ i, rfl, fun i hi => absurd ?_ hi⟩
  rw [State.reset_entry]
  rfl

/-- The credits of one port with the state of its link (R136, R138). -/
def RequesterPort.credited (u : RequesterPort) (link : LinkState) : Prop :=
  (link = .up → u.creditSum = 8) ∧ u.creditSum ≤ 8

theorem State.creditsKept_iff : s.creditsKept ↔ ∀ p, (s.port p).credited (s.link (.rp p)).state := Iff.rfl

theorem RequesterPort.credited.of_not_up {u : RequesterPort} {link link' : LinkState} (h : u.credited link)
    (hdown : link' ≠ .up) : u.credited link' := ⟨fun h => absurd h hdown, h.2⟩

/-- What a move other than a reset makes of the credits of a port and of its link. -/
theorem Move.credited (h : Move c s t) (hreset : ¬Resets c t) (p : RP) (hp : (s.port p).credited (s.link (.rp p)).state) :
    (t.port p).credited (t.link (.rp p)).state := by
  cases h with
  | coldReset hc => exact absurd ⟨.inl hc, _, _, _, _, _, rfl⟩ hreset
  | warmReset hc => exact absurd ⟨.inr hc, _, _, _, _, _, rfl⟩ hreset
  | registers h => rw [h.frame]; exact hp
  | ports h =>
    have hlink : t.link (.rp p) = s.link (.rp p) := by rw [h.frame]; rfl
    rw [hlink, RequesterPort.credited, (h.step p).sum]
    exact hp
  | links h =>
    have hport : t.port p = s.port p := by rw [h.frame]; rfl
    rw [hport]
    exact ⟨fun hup => hp.1 ((h.up p).mp hup), hp.2⟩
  | linkReset l k hc hk hdown =>
    rw [State.setLink_port, State.link_setLink]
    split
    · exact hp.of_not_up hdown
    · exact hp
  | requesterUp q k u hk hup hu hresponses hcap =>
    by_cases hq : q = p
    · subst hq
      rw [State.port_setPort_same]
      exact ⟨fun _ => hu, hu.le⟩
    · rw [State.port_setPort_ne _ _ hq, State.setPort_link, State.link_setLink_ne _ _ (by simpa using hq)]
      exact hp
  | requesterDown q k hk hdown =>
    rw [State.discardPort_link, State.discardPort_port]
    by_cases hq : q = p
    · subst hq
      rw [State.link_setLink_same, if_pos rfl]
      have hle : ((s.setLink (.rp q) k).port q).emptied.creditSum ≤ 8 := by
        refine le_trans ?_ hp.2
        simp only [RequesterPort.creditSum, RequesterPort.emptied, State.setLink_port, List.length_nil]
        omega
      exact ⟨fun h => absurd h hdown, hle⟩
    · rw [if_neg hq, State.link_setLink_ne _ _ (by simpa using hq)]
      exact hp
  | abandon i u d a hlate htarget =>
    rw [State.setTarget_port, State.placeFor_port, State.setTarget_link, State.link, State.placeFor_links]
    exact hp
  | complete i a hstate =>
    rw [State.setEntry_port, State.placeFor_port, State.setEntry_link, State.link, State.placeFor_links]
    exact hp
  | cutOff hub cut sel st hsel hhub =>
    rw [State.cutOffWhere_port, State.cutOffWhere_link]
    exact hp
  | target | bank | queue | issue | late | reclaim => exact hp

theorem Move.creditsKept (h : Move c s t) (hs : s.creditsKept) : t.creditsKept := by
  by_cases hreset : Resets c t
  · exact hreset.meets fun _ _ _ _ _ => State.reset_creditsKept
  · exact fun p => h.credited hreset p (hs p)

/-- Every entry in use of a port is marked requester lost (R39). -/
def State.allLost (s : State) (p : RP) : Prop :=
  ∀ i, (s.entry i).state ≠ .free → (s.entry i).port = p → (s.entry i).lost = true

theorem State.idleKept_iff :
    s.idleKept ↔ ∀ p, (s.link (.rp p)).state ≠ .up → (s.port p).idle ∧ s.allLost p :=
  forall₂_congr fun _ _ => ⟨fun ⟨h1, h2, h3, h4, h5, h6⟩ => ⟨⟨h1, h2, h3, h4, h5⟩, h6⟩,
    fun ⟨⟨h1, h2, h3, h4, h5⟩, h6⟩ => ⟨h1, h2, h3, h4, h5, h6⟩⟩

/-- An entry that takes another state in use stays marked, and one that is freed is no more asked for. -/
theorem State.allLost.setEntry {i : Fin 32} {e : Entry} {p : RP} (h : s.allLost p)
    (he : e.state ≠ .free → (s.entry i).state ≠ .free ∧ e.port = (s.entry i).port ∧ e.lost = (s.entry i).lost) :
    (s.setEntry i e).allLost p := by
  intro j
  rw [State.entry_setEntry]
  split
  · next hj =>
    intro hused hport
    obtain ⟨hold, hp, hlost⟩ := he hused
    rw [hlost]
    exact h i hold (hp ▸ hport)
  · exact h j

/-- R39: an entry in use of a port whose entries are all marked answers nothing. -/
theorem State.placeFor_responses_of_allLost {i : Fin 32} {p : RP} (v : State) (a : Answer) (h : s.allLost p)
    (hused : (s.entry i).state ≠ .free) : (v.placeFor (s.entry i) a).port p = v.port p := by
  have hnot : ¬((s.entry i).lost = false ∧ (s.entry i).port = p) := fun ⟨hlost, hport⟩ => by
    simp [h i hused hport] at hlost
  rw [State.placeFor_port, if_neg hnot, List.append_nil]

theorem State.endAnswers_of_allLost {p : RP} (sel : Entry → Bool) (st : Status) (h : s.allLost p) :
    s.endAnswers sel st p = [] := by
  rw [State.endAnswers_eq, List.map_eq_nil_iff, List.filter_eq_nil_iff]
  intro i _
  by_cases hport : (s.entry i).port = p
  · by_cases hfree : (s.entry i).state = .free
    · simp [Entry.live, hfree]
    · simp [h i hfree hport]
  · simp [hport]

/-- What a move other than a reset leaves of a port whose link is not UP, but for the send of a LINK RESET on a link that is
UP. -/
theorem Move.idle (h : Move c s t) (hreset : ¬Resets c t) (p : RP) (hegress : s.egressKept)
    (hsend : c = .linkResetSend (.rp p) → (s.link (.rp p)).state ≠ .up)
    (hp : (s.link (.rp p)).state ≠ .up → (s.port p).idle ∧ s.allLost p) (hdown : (t.link (.rp p)).state ≠ .up) :
    (t.port p).idle ∧ t.allLost p := by
  cases h with
  | coldReset hc => exact absurd ⟨.inl hc, _, _, _, _, _, rfl⟩ hreset
  | warmReset hc => exact absurd ⟨.inr hc, _, _, _, _, _, rfl⟩ hreset
  | registers h =>
    rw [h.frame] at hdown ⊢
    exact hp hdown
  | ports h =>
    have hlink : t.link (.rp p) = s.link (.rp p) := by rw [h.frame]; rfl
    rw [hlink] at hdown
    obtain ⟨hidle, hlost⟩ := hp hdown
    exact ⟨(h.step p).idle hdown hidle, by rw [h.frame]; exact hlost⟩
  | links h =>
    have hold := hp (mt (h.up p).mpr hdown)
    rw [h.frame]
    exact hold
  | linkReset l k hc hk hkdown =>
    by_cases hl : l = .rp p
    · subst hl
      exact hp (hsend hc)
    · rw [State.link_setLink_ne _ _ hl] at hdown
      exact hp hdown
  | requesterUp q k u hk hup hu hresponses hcap =>
    by_cases hq : q = p
    · subst hq
      rw [State.setPort_link, State.link_setLink_same] at hdown
      exact absurd hup hdown
    · rw [State.setPort_link, State.link_setLink_ne _ _ (by simpa using hq)] at hdown
      rw [State.port_setPort_ne _ _ hq]
      exact hp hdown
  | requesterDown q k hk hkdown =>
    rw [State.discardPort_port]
    by_cases hq : q = p
    · subst hq
      rw [if_pos rfl]
      refine ⟨⟨rfl, rfl, rfl, fun i => look_replicate _ i, rfl⟩, fun i hused hport => ?_⟩
      rw [State.discardPort_entry] at hused hport ⊢
      exact Bool.or_eq_true_iff.mpr (.inr (decide_eq_true ⟨hused, hport⟩))
    · rw [State.discardPort_link, State.link_setLink_ne _ _ (by simpa using hq)] at hdown
      obtain ⟨hidle, hlost⟩ := hp hdown
      rw [if_neg hq]
      refine ⟨hidle, fun i hused hport => ?_⟩
      rw [State.discardPort_entry] at hused hport ⊢
      exact Bool.or_eq_true_iff.mpr (.inl (hlost i hused hport))
  | queue q u i cls kind tag a n data hfree hopen hlength hroom hhead =>
    obtain ⟨hidle, hlost⟩ := hp hdown
    refine ⟨hidle, fun j => ?_⟩
    rw [State.enqueue, State.setTarget_entry, State.entry_setEntry]
    split
    · intro _ hq
      have hqp : q = p := hq
      subst hqp
      exact absurd hidle (not_idle_of_ingress hhead)
    · exact hlost j
  | issue u i data rest d hhead =>
    obtain ⟨hidle, hlost⟩ := hp hdown
    obtain ⟨hqueued, -⟩ := hegress.queued hhead
    exact ⟨hidle, hlost.setEntry fun _ => ⟨by rw [hqueued]; nofun, rfl, rfl⟩⟩
  | late i d hissued =>
    obtain ⟨hidle, hlost⟩ := hp hdown
    exact ⟨hidle, hlost.setEntry fun _ => ⟨by rw [hissued]; nofun, rfl, rfl⟩⟩
  | abandon i u d a hlate htarget =>
    rw [State.setTarget_link, State.link, State.placeFor_links] at hdown
    obtain ⟨hidle, hlost⟩ := hp hdown
    have hused : (s.entry i).state ≠ .free := by rw [hlate]; nofun
    refine ⟨?_, fun j => ?_⟩
    · rw [State.setTarget_port, State.placeFor_responses_of_allLost _ a hlost hused]
      exact hidle
    · rw [State.setTarget_entry, State.entry, State.placeFor_entries]
      exact hlost.setEntry (e := { s.entry i with state := .abandoned, deadline := some d }) (fun _ => ⟨hused, rfl, rfl⟩) j
  | complete i a hstate =>
    rw [State.setEntry_link, State.link, State.placeFor_links] at hdown
    obtain ⟨hidle, hlost⟩ := hp hdown
    have hused : (s.entry i).state ≠ .free := by rcases hstate with h | h <;> simp [h]
    refine ⟨?_, State.allLost.setEntry (fun j => ?_) fun h => absurd rfl h⟩
    · rw [State.setEntry_port, State.placeFor_responses_of_allLost _ a hlost hused]
      exact hidle
    · rw [State.entry, State.placeFor_entries]
      exact hlost j
  | reclaim i u habandoned htarget =>
    obtain ⟨hidle, hlost⟩ := hp hdown
    exact ⟨hidle, hlost.setEntry fun h => absurd rfl h⟩
  | cutOff hub cut sel st hsel hhub =>
    rw [State.cutOffWhere_link] at hdown
    obtain ⟨hidle, hlost⟩ := hp hdown
    refine ⟨?_, fun i => ?_⟩
    · rw [State.cutOffWhere_port, State.endAnswers_of_allLost sel st hlost, List.append_nil]
      exact hidle
    · rw [State.cutOffWhere_entry]
      split
      · exact fun h => absurd rfl h
      · exact hlost i
  | target | bank => exact hp hdown

theorem Move.idleKept (h : Move c s t) (hegress : s.egressKept)
    (hsend : ∀ p, c = .linkResetSend (.rp p) → (s.link (.rp p)).state ≠ .up) (hs : s.idleKept) : t.idleKept := by
  by_cases hreset : Resets c t
  · exact hreset.meets fun _ _ _ _ _ => State.reset_idleKept
  · exact State.idleKept_iff.mpr fun p => h.idle hreset p hegress (hsend p) (State.idleKept_iff.mp hs p)

/-- The send of a LINK RESET is one move at most. -/
theorem exec_linkResetSend_move {l : LinkId} {v : State} (h : exec (.linkResetSend l) s = .next v) :
    v = s ∨ Move (.linkResetSend l) s v := by
  obtain rfl := Host.Outcome.next.inj h
  split
  · exact .inr (.linkReset l _ rfl (Link.goDown_bounded false) (by simp [Link.goDown]))
  · exact .inl rfl

theorem exec_idleKept {v : State} (h : exec c s = .next v)
    (hsend : ∀ p, c = .linkResetSend (.rp p) → (s.link (.rp p)).state ≠ .up) (hegress : s.egressKept) (hs : s.idleKept) :
    v.idleKept := by
  by_cases hc : ∃ l, c = .linkResetSend l
  · obtain ⟨l, rfl⟩ := hc
    rcases exec_linkResetSend_move h with rfl | hmove
    · exact hs
    · exact hmove.idleKept hegress hsend hs
  · exact ((exec_moves h).keeps (P := fun u => u.egressKept ∧ u.idleKept) (fun _ _ hmove ⟨he, hi⟩ =>
      ⟨hmove.egressKept he, hmove.idleKept he (fun p hp => absurd ⟨_, hp⟩ hc) hi⟩) ⟨hegress, hs⟩).2

/-- Settles O56: every move keeps the sum of R138, and every move but the send of a LINK RESET keeps what a loss left empty. -/
theorem creditsAreKeptByEveryStep : Obligations.CreditsAreKeptByEveryStep := by
  intro s t h
  refine ⟨fun hs => step_keeps (fun _ h => h) (fun _ _ h => h) (fun _ _ _ => Move.creditsKept) h hs, fun hsend hegress hs => ?_⟩
  unfold step at h
  split at h
  · exact Host.Outcome.next.inj h ▸ hs
  · next c rest hpending =>
    exact exec_idleKept (s := { s with pending := rest }) h (fun p hp => hsend p rest (hp ▸ hpending)) hegress hs

/-- Settles O59. -/
theorem resetMeetsEveryInvariant : Obligations.ResetMeetsEveryInvariant :=
  ⟨State.reset_roomKept,
    fun b => by rw [State.reset_bank]; exact ⟨Nat.zero_le _, Counter.reset_consistent⟩,
    ⟨State.reset_egressKept, State.reset_deadlinesKept, State.reset_abandonKept, State.reset_cutOffKept⟩,
    State.reset_creditsKept, State.reset_idleKept, State.reset_linksKept, State.reset_settingsKept, State.reset_activeKept,
    State.reset_targetCreditsKept⟩

end Sys2Proof.Machine
end

section
/-! SUPPORT. The form of a REQUEST and its arrival, the offers of heads, and what a CONTAINED hub answers. Settles O4, O5, O8
and O22. -/

namespace Sys2Proof

open Machine

/-! ## The form of a REQUEST -/

section Form

variable {r : RawRequest}

/-- The kind of a REQUEST is one of the six, or unknown. -/
theorem RawRequest.kind_cases (r : RawRequest) :
    r.kind.toNat = 1 ∨ r.kind.toNat = 2 ∨ r.kind.toNat = 3 ∨ r.kind.toNat = 4 ∨ r.kind.toNat = 5 ∨ r.kind.toNat = 6 ∨
      (r.kind.toNat < 1 ∨ 6 < r.kind.toNat) := by
  omega

/-- R139, R141: five kinds carry a tag, which is legible in 0 to 63. -/
theorem RawRequest.legibleTag_eq_some {g : Tag} :
    r.legibleTag = some g ↔
      (r.kind.toNat = 1 ∨ r.kind.toNat = 2 ∨ r.kind.toNat = 4 ∨ r.kind.toNat = 5 ∨ r.kind.toNat = 6) ∧
        r.tag.toNat = g.val := by
  have hthree : r.kind ≠ 3 ↔ r.kind.toNat ≠ 3 := not_congr BitVec.toNat_inj.symm
  have hknown : ((r.known && decide (r.kind ≠ 3)) = true) ↔
      r.kind.toNat = 1 ∨ r.kind.toNat = 2 ∨ r.kind.toNat = 4 ∨ r.kind.toNat = 5 ∨ r.kind.toNat = 6 := by
    simp only [RawRequest.known, Bool.and_eq_true, decide_eq_true_eq, hthree]
    omega
  rw [RawRequest.legibleTag]
  split
  · next h =>
    rw [finOf_eq_some, and_iff_right (hknown.mp h)]
  · next h => simp [mt hknown.mpr h]

theorem RawRequest.legibleTag_eq_none :
    r.legibleTag = none ↔
      ¬(r.kind.toNat = 1 ∨ r.kind.toNat = 2 ∨ r.kind.toNat = 4 ∨ r.kind.toNat = 5 ∨ r.kind.toNat = 6) ∨
        63 < r.tag.toNat := by
  rw [Option.eq_none_iff_forall_ne_some]
  simp only [ne_eq, RawRequest.legibleTag_eq_some, not_and]
  constructor
  · intro h
    by_contra hnot
    obtain ⟨hkind, htag⟩ := not_or.mp hnot
    exact h ⟨r.tag.toNat, by omega⟩ (not_not.mp hkind) rfl
  · rintro (h | h) g hkind
    · exact absurd hkind h
    · have := g.isLt
      omega

theorem RawRequest.number_toNat : r.number.toNat = r.address.toNat / 2 ^ 24 := by
  have := r.address.isLt
  rw [RawRequest.number, BitVec.extractLsb'_toNat, Nat.shiftRight_eq_div_pow]
  omega

/-- R140: the first and the last byte lie in one block of 64. -/
theorem RawRequest.inBlock_iff :
    r.inBlock = true ↔ ¬(r.length.toNat < 1 ∨ 64 < r.length.toNat ∨
      r.address.toNat / 64 ≠ (r.address.toNat + r.length.toNat - 1) / 64) := by
  simp only [RawRequest.inBlock, Bool.and_eq_true, decide_eq_true_eq]
  omega

theorem RawRequest.aligned_iff :
    r.aligned = true ↔ (r.length.toNat = 4 ∨ r.length.toNat = 8) ∧ r.length.toNat ∣ r.address.toNat := by
  have hlength : ∀ n : Byte, r.length = n ↔ r.length.toNat = n.toNat := fun n => BitVec.toNat_inj.symm
  simp [RawRequest.aligned, hlength, Nat.dvd_iff_mod_eq_zero]

theorem RawRequest.length_eq_eight : r.length = 8 ↔ r.length.toNat = 8 := BitVec.toNat_inj.symm

end Form

/-- A form in which the tag must be legible fails where its conditions fail or the tag is not. -/
theorem ite_map_eq_none {α β : Type} {q : Prop} [Decidable q] {o : Option α} {f : α → β} :
    (if q then o.map f else none) = none ↔ ¬q ∨ o = none := by
  split <;> simp_all

/-- A form in which no tag must be legible. -/
theorem ite_some_eq_none {β : Type} {q : Prop} [Decidable q] {b : β} : (if q then some b else none) = none ↔ ¬q := by
  split <;> simp_all

/-- R140: a REQUEST that breaks no rule of form has an item. -/
theorem RawRequest.item_eq_none_iff (r : RawRequest) : r.item = none ↔ r.breaksForm := by
  rcases r.kind_cases with h | h | h | h | h | h | h
  case inr.inr.inr.inr.inr.inr =>
    have hnone : r.item = none := by
      rw [RawRequest.item]
      split <;> first | rfl | omega
    have hbreaks : r.breaksForm := .inl (by omega)
    exact iff_of_true hnone hbreaks
  all_goals
    have hnil : r.data = [] → r.data.length = 0 := fun h => congrArg List.length h
    simp only [RawRequest.item, h, ite_map_eq_none, ite_some_eq_none, RawRequest.legibleTag_eq_none, RawRequest.breaksForm,
      Bool.and_eq_true, RawRequest.inBlock_iff, RawRequest.aligned_iff, RawRequest.length_eq_eight, RawRequest.carries,
      decide_eq_true_eq]
    grind

theorem eq_some_of_ite_map {α β : Type} {q : Prop} [Decidable q] {o : Option α} {f : α → β} {b : β}
    (h : (if q then o.map f else none) = some b) : q ∧ ∃ a, o = some a ∧ f a = b := by
  split at h
  · next hq => exact ⟨hq, Option.map_eq_some_iff.mp h⟩
  · cases h

/-- The item of a REQUEST carries its fields. -/
theorem RawRequest.item_eq_some {r : RawRequest} {i : Item} (h : r.item = some i) :
    (r.kind.toNat = 1 ∧ ∃ g : Tag, r.tag.toNat = g.val ∧ i = .mem .read g r.address r.length.toNat r.data) ∨
    (r.kind.toNat = 2 ∧ ∃ g : Tag, r.tag.toNat = g.val ∧ i = .mem .write g r.address r.length.toNat r.data) ∨
    (r.kind.toNat = 3 ∧ i = .posted r.address r.length.toNat r.data) ∨
    (r.kind.toNat = 4 ∧ ∃ g : Tag, r.tag.toNat = g.val ∧ i = .mem .swap g r.address r.length.toNat r.data) ∨
    (r.kind.toNat = 5 ∧ ∃ g : Tag, r.tag.toNat = g.val ∧ i = .configRead g r.number) ∨
    (r.kind.toNat = 6 ∧ ∃ g : Tag, r.tag.toNat = g.val ∧ i = .configWrite g r.number r.data) := by
  rcases r.kind_cases with hk | hk | hk | hk | hk | hk | hk
  case inr.inr.inr.inr.inr.inr =>
    have hbreaks : r.breaksForm := .inl (by omega)
    rw [r.item_eq_none_iff.mpr hbreaks] at h
    cases h
  case inr.inr.inl =>
    simp only [RawRequest.item, hk] at h
    split at h
    · exact .inr (.inr (.inl ⟨hk, (Option.some.inj h).symm⟩))
    · cases h
  all_goals
    simp only [RawRequest.item, hk] at h
    obtain ⟨hform, g, hg, rfl⟩ := eq_some_of_ite_map h
    obtain ⟨-, htag⟩ := RawRequest.legibleTag_eq_some.mp hg
    simp_all

/-- Settles O4. -/
theorem requestFormDecidesItemAndLegibility : Obligations.RequestFormDecidesItemAndLegibility := by
  intro r
  have hnumber := r.number_toNat
  refine ⟨r.item_eq_none_iff, fun i hi => ?item, fun g => RawRequest.legibleTag_eq_some, fun hlo hhi => ?mem,
    fun hkind => ⟨r.number.setWidth 40, ?config, ?number⟩, fun hkind => ?unknown⟩
  case item =>
    rcases RawRequest.item_eq_some hi with ⟨hk, g, hg, rfl⟩ | ⟨hk, g, hg, rfl⟩ | ⟨hk, rfl⟩ | ⟨hk, g, hg, rfl⟩ |
      ⟨hk, g, hg, rfl⟩ | ⟨hk, g, hg, rfl⟩
    · exact ⟨hk, hg.symm, rfl, rfl, rfl⟩
    · exact ⟨hk, hg.symm, rfl, rfl, rfl⟩
    · exact ⟨hk, rfl, rfl, rfl⟩
    · exact ⟨hk, hg.symm, rfl, rfl, rfl⟩
    · exact ⟨hk, hg.symm, hnumber⟩
    · exact ⟨hk, hg.symm, hnumber, rfl⟩
  case mem =>
    rw [RawRequest.legibleAddress, if_pos (by simp [RawRequest.known]; omega), if_neg (by omega)]
  case config =>
    rw [RawRequest.legibleAddress, if_pos (by simp [RawRequest.known]; omega), if_pos (by omega)]
  case number =>
    have := r.number.isLt
    rw [BitVec.toNat_setWidth, ← hnumber]
    omega
  case unknown =>
    rw [RawRequest.legibleAddress, if_neg (by simp [RawRequest.known]; omega)]

end Sys2Proof

namespace Sys2Proof.Machine

variable {s : State} {p : RP}

/-! ## Arrival -/

/-- R141: the tags live for a port are those of its queue, of its live entries and of its waiting answers. -/
theorem State.tagLive_iff {g : Tag} : s.tagLive p g = true ↔ s.liveTag p g := by
  have hentries : s.entries.toList.any (fun e => e.heldBy p && e.tag = g) = true ↔
      ∃ i, (s.entry i).port = p ∧ (s.entry i).tag = g ∧
        ((s.entry i).state = .queued ∨ (s.entry i).state = .issued ∨ (s.entry i).state = .late) := by
    rw [toList_eq_map_look, List.any_map, List.any_eq_true]
    refine exists_congr fun i => ?_
    simp only [List.mem_finRange, true_and, Function.comp, Entry.heldBy, Entry.live, Bool.and_eq_true, Bool.or_eq_true,
      decide_eq_true_eq, State.entry, or_assoc]
    tauto
  rw [State.tagLive, Bool.or_eq_true, Bool.or_eq_true, hentries, State.liveTag, or_assoc]
  simp only [List.any_eq_true, decide_eq_true_eq]

theorem exec_requestArrival (hup : (s.link (.rp p)).state = .up) (r : RawRequest) :
    exec (.requestArrival p r) s = .next (s.arrive p r) :=
  congrArg Host.Outcome.next (if_pos hup)

/-- Settles O5: the checks of an arrival one after the other. -/
theorem requestArrivalChecksCreditFormAndTag : Obligations.RequestArrivalChecksCreditFormAndTag := by
  intro s p r hup u about joined refunded
  rw [exec_requestArrival hup]
  refine ⟨fun hzero => ?overrun, fun n hn hitem => ⟨fun g hg => ?refusal, fun hg => ?refund⟩,
    fun n x hn hitem => ⟨fun hlive => ?duplicate, fun hnot => ?accepted⟩⟩
  case overrun => rw [State.arrive, if_pos hzero]
  all_goals
    have hsome : ¬(s.port p).reckoning = 0 := fun h => absurd (h.symm.trans hn) (by omega)
    have hless : (s.port p).reckoning - 1 = n := by
      have : (s.port p).reckoning = n + 1 := hn
      omega
    rw [State.arrive, if_neg hsome]
    simp only [hitem, hless]
  case refusal => simp only [about, hg]; rfl
  case refund => simp only [about, hg]; rfl
  case duplicate =>
    have htag : x.tag.any (s.tagLive p) = true := by
      obtain ⟨g, hg, hl⟩ := hlive
      rw [hg]
      exact State.tagLive_iff.mpr hl
    rw [if_pos htag]
  case accepted =>
    have htag : ¬x.tag.any (s.tagLive p) = true := by
      rw [Option.any_eq_true]
      rintro ⟨g, hg, hl⟩
      exact hnot ⟨g, hg, State.tagLive_iff.mp hl⟩
    rw [if_neg htag]
    rfl

/-! ## Offers -/

section Offers

variable {kind : MemKind} {tag : Tag} {a : Address} {n : Nat} {data : List Byte}

theorem exec_offer_mem (hnormal : s.hub = .normal) (hdue : (s.port p).offerDue = true)
    (hhead : s.atHead p (.mem kind tag a n data)) : exec (.offer p) s = .next (s.offerMem p kind tag a n) := by
  change execOffer p s = _
  simp only [execOffer, hnormal, hdue, hhead, decide_true, Bool.and_self, if_true]

theorem exec_offer_posted (hnormal : s.hub = .normal) (hdue : (s.port p).offerDue = true)
    (hhead : s.atHead p (.posted a n data)) : exec (.offer p) s = .next (s.offerPosted p a n) := by
  change execOffer p s = _
  simp only [execOffer, hnormal, hdue, hhead, decide_true, Bool.and_self, if_true]

/-- R14: a success is held with the head, and no offer is due. -/
theorem State.offerMem_success {t : TP} {cls : Fin 4} (hsound : s.active.sound = true)
    (hd : s.decode p kind.access a n = .success t cls) :
    s.offerMem p kind tag a n = s.holdOutcome p (some (t, cls)) := by
  simp only [State.offerMem, hsound, Bool.not_true, Bool.false_eq_true, if_false, hd]

/-- R15, R16: a failing head leaves answered, with the record of its outcome. -/
theorem State.offerMem_fails {d : Decoded} (hsound : s.active.sound = true) (hd : s.decode p kind.access a n = d)
    (hfails : ∀ t cls, d ≠ .success t cls) (hroom : s.hasRoom p) :
    s.offerMem p kind tag a n =
      (s.answered p tag d.status (allOnes kind n)).reportIf (.req p) (d.report p (some tag) a s.version) := by
  simp only [State.offerMem, hsound, Bool.not_true, Bool.false_eq_true, if_false, hd, (State.room_iff p).mpr hroom, if_true,
    State.answerHead_eq, hubData_eq]

/-- R17: a failing head without room for its answer waits. -/
theorem State.offerMem_waits (hsound : s.active.sound = true)
    (hfails : ∀ t cls, s.decode p kind.access a n ≠ .success t cls) (hroom : ¬s.hasRoom p) :
    s.offerMem p kind tag a n = s.holdOutcome p none := by
  have hnot : ¬s.room p = true := mt (State.room_iff p).mp hroom
  simp only [State.offerMem, hsound, Bool.not_true, Bool.false_eq_true, if_false, hnot]

theorem State.offerPosted_success {t : TP} {cls : Fin 4} (hsound : s.active.sound = true)
    (hd : s.decode p .write a n = .success t cls) : s.offerPosted p a n = s.holdOutcome p (some (t, cls)) := by
  simp only [State.offerPosted, hsound, Bool.not_true, Bool.false_eq_true, if_false, hd]

/-- R15, R16: a failing POSTED WRITE leaves with the record of its outcome alone. -/
theorem State.offerPosted_fails {d : Decoded} (hsound : s.active.sound = true) (hd : s.decode p .write a n = d)
    (hfails : ∀ t cls, d ≠ .success t cls) :
    s.offerPosted p a n = (s.discarded p).reportIf (.req p) (d.report p none a s.version) := by
  simp only [State.offerPosted, hsound, Bool.not_true, Bool.false_eq_true, if_false, hd, State.leaveHead_eq]

/-- R12: only a SWAP is refused for its window. -/
theorem State.decode_write_ne_atomicRefused : s.decode p .write a n ≠ .atomicRefused := by
  rw [State.decode]
  split
  · nofun
  · simp only [State.direct, State.choose]
    split
    · nofun
    · split
      · nofun
      · split <;> nofun

/-- The outcome of an offer while the head waits. -/
theorem State.holdOutcome_eq (o : Option (TP × Fin 4)) :
    s.holdOutcome p o = s.setPort p { s.port p with outcome := o, offerDue := false } := rfl

/-- R7, R130: an offer that finds the table damaged contains the hub, with HUB FAULT behind the answers of the
containment. -/
theorem State.offerMem_damaged (hnormal : s.hub = .normal) (hdamaged : s.active.sound = false) :
    s.offerMem p kind tag a n =
      let v := (s.holdOutcome p none).contain
        { kind := .storageCheck, severity := .fatal, port := some p, tag := some tag, address := some a }
      if s.hasRoom p then v.answered p tag .hubFault (allOnes kind n) else v := by
  have hhub : (s.holdOutcome p none).hub = .normal := hnormal
  simp only [State.offerMem, hdamaged, Bool.not_false, if_true, State.storageCheck, hhub, State.answerHead_eq, hubData_eq,
    State.room_iff]

theorem State.offerPosted_damaged (hnormal : s.hub = .normal) (hdamaged : s.active.sound = false) :
    s.offerPosted p a n =
      ((s.holdOutcome p none).contain
        { kind := .storageCheck, severity := .fatal, port := some p, address := some a }).discarded p := by
  have hhub : (s.holdOutcome p none).hub = .normal := hnormal
  simp only [State.offerPosted, hdamaged, Bool.not_false, if_true, State.storageCheck, hhub, State.leaveHead_eq]

end Offers

/-- Settles O8: the offer of each kind of head by the outcome of its decode. -/
theorem offersHoldAnswerRecordOrWait : Obligations.OffersHoldAnswerRecordOrWait := by
  intro s p a n data hnormal hdue hsound about waiting
  refine ⟨?mem, ?posted⟩
  case mem =>
    intro kind tag hhead access d left
    have haccess : access = kind.access := by cases kind <;> rfl
    have hd : s.decode p kind.access a n = d := by rw [← haccess]
    rw [exec_offer_mem hnormal hdue hhead]
    refine ⟨fun t cls hs => ?_, fun hroom => ⟨fun hf => ?_, fun t hf => ?_, fun hf => ?_, fun hf => ?_⟩, fun hroom hf => ?_⟩
    · rw [State.offerMem_success hsound (hd.trans hs), State.holdOutcome_eq]
    · rw [State.offerMem_fails hsound (hd.trans hf) nofun hroom]; rfl
    · rw [State.offerMem_fails hsound (hd.trans hf) nofun hroom]; rfl
    · rw [State.offerMem_fails hsound (hd.trans hf) nofun hroom]; rfl
    · rw [State.offerMem_fails hsound (hd.trans hf) nofun hroom]; rfl
    · rw [State.offerMem_waits hsound (hd ▸ hf) hroom, State.holdOutcome_eq]
  case posted =>
    intro hhead d left
    rw [exec_offer_posted hnormal hdue hhead]
    refine ⟨fun t cls hs => ?_, fun hf => ?_, fun t hf => ?_, fun hf => ?_, State.decode_write_ne_atomicRefused⟩
    · rw [State.offerPosted_success hsound hs, State.holdOutcome_eq]
    · rw [State.offerPosted_fails hsound hf nofun]; rfl
    · rw [State.offerPosted_fails hsound hf nofun]; rfl
    · rw [State.offerPosted_fails hsound hf nofun]; rfl

/-! ## Heads of a CONTAINED hub -/

theorem exec_containedHeadHandling_mem {kind : MemKind} {tag : Tag} {a : Address} {n : Nat} {d : List Byte}
    (hcontained : s.hub = .contained) (hhead : s.atHead p (.mem kind tag a n d)) :
    exec (.containedHeadHandling p) s =
      .next (if s.hasRoom p then s.answered p tag .hubFault (allOnes kind n) else s) := by
  change execContainedHeadHandling p s = _
  simp only [execContainedHeadHandling, hcontained, hhead, if_true, State.answerHead_eq, hubData_eq, State.room_iff]

theorem exec_containedHeadHandling_posted {a : Address} {n : Nat} {d : List Byte} (hcontained : s.hub = .contained)
    (hhead : s.atHead p (.posted a n d)) : exec (.containedHeadHandling p) s = .next (s.discarded p) := by
  change execContainedHeadHandling p s = _
  simp only [execContainedHeadHandling, hcontained, hhead, if_true, State.leaveHead_eq]

theorem exec_refusalPlaceAnswer {tag : Tag} (hhead : s.atHead p (.refusal tag)) :
    exec (.refusalPlaceAnswer p) s = .next (if s.hasRoom p then s.answered p tag .refused [] else s) := by
  change execRefusalPlaceAnswer p s = _
  simp only [execRefusalPlaceAnswer, hhead, State.answerHead_eq, State.room_iff]

/-- R132: no head is ready while CONTAINED, so none is granted. -/
theorem State.grantee_contained (hcontained : s.hub = .contained) : s.grantee = none := by
  have hready : ∀ q, s.ready q = false := fun q => by simp [State.ready, hcontained]
  simp [State.grantee, hready]

/-- R50: a target that is not OPEN is sent nothing. -/
theorem State.maySend_closed {t : TP} (h : (s.target t).state ≠ .opened) : s.maySend t = false := by
  simp [State.maySend, h]

theorem exec_send_idle {t : TP} (h : s.maySend t = false) : exec (.send t) s = .next s := by
  change execSend t s = _
  simp only [execSend, h, Bool.false_eq_true, if_false]

theorem exec_postedWriteSend_idle {t : TP} (h : s.maySend t = false) : exec (.postedWriteSend t) s = .next s := by
  change execPostedWriteSend t s = _
  simp only [execPostedWriteSend, h, Bool.false_eq_true, if_false]

/-- Settles O22. -/
theorem containedHeadsAndRefusalPlacesAreAnswered : Obligations.ContainedHeadsAndRefusalPlacesAreAnswered := by
  intro s p
  refine ⟨fun kind tag a n d hc hhead => ⟨fun hroom => ?_, fun hroom => ?_⟩,
    fun a n d hc hhead => exec_containedHeadHandling_posted hc hhead,
    fun tag hhead => ⟨fun hroom => ?_, fun hroom => ?_⟩, fun hc => ⟨?_, ?_, ?_⟩, fun t hc hkept => ?_⟩
  · rw [exec_containedHeadHandling_mem hc hhead, if_pos hroom]
  · rw [exec_containedHeadHandling_mem hc hhead, if_neg hroom]
  · rw [exec_refusalPlaceAnswer hhead, if_pos hroom]
  · rw [exec_refusalPlaceAnswer hhead, if_neg hroom]
  · change execOffer p s = _
    simp [execOffer, hc]
  · change execGrant s = _
    simp only [execGrant, State.grantee_contained hc]
  · change execPostedWriteGrant s = _
    simp only [execPostedWriteGrant, State.grantee_contained hc]
  · have hfenced : (s.target t).state = .fenced := hkept.2.2 hc t
    have hclosed : s.maySend t = false := State.maySend_closed (by rw [hfenced]; nofun)
    exact ⟨exec_send_idle hclosed, exec_postedWriteSend_idle hclosed⟩

end Sys2Proof.Machine
end

section
/-! SUPPORT. The sends to a target, what it returns, the breaches of its responses, the stage 2 expiry and the damaged
entries. Settles O11, O12, O15, O17 and O20. -/

namespace Sys2Proof.Machine

variable {s : State} {t : TP} {i : Fin 32}

/-! ## Sends -/

theorem exec_send {data : List Byte} {rest : List Place} (hmay : s.maySend t = true)
    (hegress : (s.target t).egress = .entry i data :: rest) (hparity : (s.entry i).parity = true) :
    exec (.send t) s = .next
      (((s.setEntry i { s.entry i with
        state := .issued, deadline := some (s.clock + s.classMicros (s.entry i).cls) }).sendPacket (.tp t) .request
          ((s.entry i).requestPayload i data)).spend t) := by
  change execSend t s = _
  simp only [execSend, hmay, hegress, List.head?_cons, hparity, Bool.not_true, Bool.false_eq_true, if_true, if_false]

/-- R40: a damaged entry at the head of an egress queue is not sent. -/
theorem exec_send_damaged {data : List Byte} {rest : List Place} (hmay : s.maySend t = true)
    (hegress : (s.target t).egress = .entry i data :: rest) (hparity : (s.entry i).parity = false) :
    exec (.send t) s = .next (s.entryFault i) := by
  change execSend t s = _
  simp only [execSend, hmay, hegress, List.head?_cons, hparity, Bool.not_false, if_true]

theorem exec_postedWriteSend {a : Address} {n : Nat} {data : List Byte} {origin : RP} {rest : List Place}
    (hmay : s.maySend t = true) (hegress : (s.target t).egress = .posted a n data origin :: rest) :
    exec (.postedWriteSend t) s = .next ((s.sendPacket (.tp t) .request (postedPayload a n data origin)).spend t) := by
  change execPostedWriteSend t s = _
  simp only [execPostedWriteSend, hmay, hegress, List.head?_cons, if_true]

/-- R49, R50: what a send leaves of the target whose head place it takes. -/
theorem State.spend_eq {v : State} {x : Place} {rest : List Place} (h : v.target t = s.target t)
    (hegress : (s.target t).egress = x :: rest) :
    v.spend t = (v.setTarget t { s.target t with egress := rest, credits := (s.target t).credits - 1 }).offerAll := by
  rw [State.spend, h, hegress, List.tail_cons]

/-- Settles O11. -/
theorem sendsPutTheHeadOfEgressOnTheLink : Obligations.SendsPutTheHeadOfEgressOnTheLink := by
  intro s t rest k hopen hcredits hup hconfirmed hpending hreplay sent
  have hmay : s.maySend t = true := State.maySend_iff.mpr ⟨hopen, hcredits, Link.canTake_iff.mpr ⟨hup, hconfirmed, hpending, hreplay⟩⟩
  refine ⟨?entry, fun a n d origin hegress => ?posted, fun v => ⟨fun p => State.port_offerAll .., rfl⟩⟩
  case entry =>
    intro i d hegress hparity e code
    have hcode : e.requestPayload i d = [code, byteOf i.val, byteOf e.generation.val, byteOf e.port.val] ++
        bytes40 e.address ++ [byteOf e.length] ++ d := by
      have hkind : byteOf e.kind.code = code := by
        simp only [code]
        cases e.kind <;> rfl
      rw [Entry.requestPayload, hkind]
    rw [exec_send hmay hegress hparity, hcode]
    exact congrArg Host.Outcome.next (State.spend_eq rfl hegress)
  case posted =>
    rw [exec_postedWriteSend hmay hegress]
    exact congrArg Host.Outcome.next (State.spend_eq rfl hegress)

/-! ## Credits -/

theorem exec_creditReturn (hup : (s.link (.tp t)).state = .up) (amount : Byte) :
    exec (.creditReturn t amount) s = .next (s.takeCreditPacket t amount) := congrArg Host.Outcome.next (if_pos hup)

theorem State.takeCreditPacket_closed {amount : Byte} (h : (s.target t).state ≠ .opened) :
    s.takeCreditPacket t amount = s := if_neg h

theorem State.takeResponse_closed {x : RawResponse} (h : (s.target t).state ≠ .opened) : s.takeResponse t x = s := if_neg h

theorem exec_responseIntake_takeResponse (hup : (s.link (.tp t)).state = .up) (x : RawResponse) :
    exec (.responseIntake t x) s = .next (s.takeResponse t x) := congrArg Host.Outcome.next (if_pos hup)

/-- A PROTOCOL breach that names no entry. -/
theorem State.breach_eq :
    s.breach t = (s.report (.tgt t)
      { kind := .protocol, severity := .fatal, target := some t, detail := some (s.fenceDetail t) }).fence t := rfl

/-- R49: a return beyond the advertisement is a breach. -/
theorem State.takeCredit_breach {n : Nat} (hopen : (s.target t).state = .opened)
    (h : 0 < n ∧ (s.target t).advertisement < (s.target t).credits + n) : s.takeCredit t n = s.breach t := by
  rw [State.takeCredit, if_pos hopen, if_pos h]

/-- Settles O12. -/
theorem creditReturnsAddOrFence : Obligations.CreditReturnsAddOrFence := by
  intro s t amount hup u n
  rw [exec_creditReturn hup]
  refine ⟨fun hclosed => ⟨?_, fun x => ?_⟩, fun hopen hlo hhi hfits => ?_, fun hopen hbreach => ?_⟩
  · rw [State.takeCreditPacket_closed hclosed]
  · rw [exec_responseIntake_takeResponse hup, State.takeResponse_closed hclosed]
  · rw [State.takeCreditPacket, if_pos hopen, if_pos ⟨hlo, hhi⟩, State.takeCredit_eq_credited hopen ⟨hhi, .inr hfits⟩]
    rfl
  · rw [State.takeCreditPacket, if_pos hopen, ← State.breach_eq]
    by_cases hrange : 1 ≤ amount.toNat ∧ amount.toNat ≤ 16
    · have hover : (s.target t).advertisement < (s.target t).credits + amount.toNat :=
        (hbreach.resolve_left (by omega)).resolve_left (by omega)
      rw [if_pos hrange, State.takeCredit_breach hopen ⟨hrange.1, hover⟩]
    · rw [if_neg hrange]

/-! ## Breaches of a response -/

section Breaches

variable {r : Response}

/-- R58: a response for an entry of another target, or of none. -/
theorem State.intake_foreign (hparity : (s.entry r.index).parity = true) (htarget : (s.entry r.index).target ≠ some t) :
    s.intake t r = s.protocolResponse t r none := by
  simp only [State.intake, hparity, Bool.not_true, Bool.false_eq_true, if_false, if_neg htarget]

/-- R58: a response for a QUEUED entry, or with data its entry does not expect. -/
theorem State.intake_breach (hparity : (s.entry r.index).parity = true) (htarget : (s.entry r.index).target = some t)
    (hused : (s.entry r.index).state ≠ .free) (hgen : (s.entry r.index).generation = r.generation)
    (h : (s.entry r.index).state = .queued ∨ ¬(s.entry r.index).expectsData r.data) :
    s.intake t r = s.protocolResponse t r (some (s.entry r.index)) := by
  simp only [State.intake, hparity, Bool.not_true, Bool.false_eq_true, if_false, htarget, if_true, hused, hgen, ne_eq,
    not_true, decide_false, Bool.or_self]
  by_cases hfits : (s.entry r.index).dataFits r.data = true
  · have hqueued := h.resolve_right (not_not.mpr (((s.entry r.index).dataFits_iff r.data).mp hfits))
    rw [if_neg (by simp [hfits]), hqueued]
  · rw [if_pos (by simpa using hfits)]

/-- R40, R51: a damaged entry is found whatever the response says. -/
theorem State.intake_damaged (hparity : (s.entry r.index).parity = false) : s.intake t r = s.entryFault r.index := by
  simp only [State.intake, hparity, Bool.not_false, if_true]

theorem TargetStatus.le_of_ofCode {n : Nat} {x : TargetStatus} (h : TargetStatus.ofCode n = some x) : n ≤ 3 := by
  unfold TargetStatus.ofCode at h
  split at h
  case h_5 => cases h
  all_goals decide

/-- R164: a response of a form no target may send. -/
theorem responseOf_eq_none {x : RawResponse}
    (h : 31 < x.index.toNat ∨ 3 < x.generation.toNat ∨ 3 < x.status.toNat ∨ 16 < x.credit.toNat) : responseOf x = none := by
  by_contra hne
  obtain ⟨y, hy⟩ := Option.ne_none_iff_exists'.mp hne
  simp only [responseOf, Option.bind_eq_bind, Option.bind_eq_some_iff] at hy
  obtain ⟨index, hindex, generation, hgeneration, status, hstatus, credit, hcredit, -⟩ := hy
  have hi := finOf_eq_some.mp hindex
  have hg := finOf_eq_some.mp hgeneration
  obtain ⟨⟨-, hc⟩, -⟩ := inRange_eq_some.mp hcredit
  have hs := TargetStatus.le_of_ofCode hstatus
  omega

/-- R49, R164: a RESPONSE whose form or credit return no target may send is a breach and is heard no further. -/
theorem State.takeResponse_breach {x : RawResponse} (hopen : (s.target t).state = .opened)
    (h : 31 < x.index.toNat ∨ 3 < x.generation.toNat ∨ 3 < x.status.toNat ∨ ¬s.mayReturn t x.credit.toNat) :
    s.takeResponse t x = s.breach t := by
  rw [State.takeResponse, if_pos hopen]
  cases hform : responseOf x with
  | none => rfl
  | some y =>
    have hcredit : y.credit = x.credit.toNat ∧ x.credit.toNat ≤ 16 ∧ x.index.toNat ≤ 31 ∧ x.generation.toNat ≤ 3 ∧
        x.status.toNat ≤ 3 := by
      have hgood := mt responseOf_eq_none (by rw [hform]; nofun)
      refine ⟨?_, by omega⟩
      simp only [responseOf, Option.bind_eq_bind, Option.bind_eq_some_iff] at hform
      obtain ⟨index, hindex, generation, hgeneration, status, hstatus, credit, hcredit, hy⟩ := hform
      rw [← Option.some.inj hy]
      exact (inRange_eq_some.mp hcredit).2.symm
    obtain ⟨hc, hle, hi, hg, hs⟩ := hcredit
    have hreturn : ¬s.mayReturn t x.credit.toNat := by
      rcases h with h | h | h | h
      · omega
      · omega
      · omega
      · exact h
    have hover : 0 < y.credit ∧ (s.target t).advertisement < (s.target t).credits + y.credit := by
      rw [hc]
      by_contra hnot
      exact hreturn ⟨hle, by omega⟩
    have hfenced : ((s.breach t).target t).state ≠ .opened := by
      rw [State.breach_eq, State.fence_target_same]
      nofun
    dsimp only
    rw [State.takeCredit_breach hopen hover, if_neg hfenced]

end Breaches

/-- Settles O15. -/
theorem protocolBreachesFenceTheTarget : Obligations.ProtocolBreachesFenceTheTarget := by
  intro s t i g status credit data e s₁ r breach hup hopen
  refine ⟨fun hret hstatus hparity => ?_, fun x hx => ?form⟩
  · obtain ⟨x, hx⟩ := TargetStatus.ofCode_eq_some hstatus
    have hexec := exec_responseIntake hup hopen (responseOf_eq_some (i := i) (g := g) (data := data) hx hret.1) hret
    refine ⟨fun htarget => ?foreign, fun htarget hused hgen hbreach => ?matched⟩
    case foreign => exact hexec.trans (congrArg Host.Outcome.next (State.intake_foreign (r := ⟨i, g, x, _, data⟩) hparity htarget))
    case matched =>
      exact hexec.trans (congrArg Host.Outcome.next
        (State.intake_breach (r := ⟨i, g, x, _, data⟩) hparity htarget hused hgen hbreach))
  case form => rw [exec_responseIntake_takeResponse hup, State.takeResponse_breach hopen hx, State.breach_eq]

/-! ## The stage 2 expiry -/

/-- R68, R69: what a due LATE entry becomes, before the fence limit is looked at. -/
def State.timedOut (s : State) (i : Fin 32) (t : TP) : State :=
  let e := s.entry i
  let s₁ := s.setEntry i { e with state := .abandoned, deadline := some (s.clock + micros s.reclaimMs) }
  let s₂ := (s₁.placeFor e (e.hubAnswer .timedOut)).offerPort e.port
  (s₂.setTarget t { s₂.target t with abandon := (s₂.target t).abandon + 1 }).report (.tgt t)
    (e.about i .timedOut .uncorrected)

theorem exec_stage2Expiry_of_due (hlate : (s.entry i).state = .late) (hdue : s.reached (s.entry i).deadline = true)
    (hparity : (s.entry i).parity = true) (htarget : (s.entry i).target = some t) :
    exec (.stage2Expiry i) s = .next
      (if ((s.timedOut i t).target t).fenceLimit ≤ ((s.timedOut i t).target t).abandon then
        (s.timedOut i t).fenceFor t ((s.entry i).about i .abandonLimit .fatal)
      else s.timedOut i t) := by
  change execStage2Expiry i s = _
  simp only [execStage2Expiry]
  rw [if_pos (by simp [hlate, hdue]), if_neg (by simp [hparity])]
  split
  · next u hu =>
    obtain rfl : t = u := Option.some.inj (htarget.symm.trans hu)
    rfl
  · next hnone => simp [htarget] at hnone

/-- R39: the answer of an entry with the offer that its port's held count allows. -/
theorem State.placeFor_offerPort (v : State) (e : Entry) (a : Answer) :
    (v.placeFor e a).offerPort e.port =
      v.setPort e.port { v.port e.port with
        responses := (v.port e.port).responses ++ (if e.lost then [] else [a])
        offerDue := true } := by
  cases hl : e.lost <;> simp [State.placeFor, State.offerPort, State.place, hl]

/-- Settles O17. -/
theorem stageTwoExpiryAbandonsTheEntry : Obligations.StageTwoExpiryAbandonsTheEntry := by
  intro s i t d e u port about answer s₁ s₂ s₃ hlate hdeadline hle hparity htarget
  have habout : ∀ k severity, e.about i k severity = about k severity := fun _ _ => Entry.about_eq htarget
  have hs₃ : s.timedOut i t = s₃ := by
    have hanswer : e.hubAnswer .timedOut = answer := by rw [Entry.hubAnswer, hubData_eq]
    simp only [State.timedOut]
    rw [State.placeFor_offerPort, hanswer, habout]
    rfl
  have htarget₃ : s₃.target t = { u with abandon := u.abandon + 1 } := by
    rw [State.report_target, State.target_setTarget_same]
  rw [exec_stage2Expiry_of_due hlate (State.reached_of_le hdeadline hle) hparity htarget, hs₃, htarget₃, habout]
  refine ⟨fun hbelow => ?_, fun hlimit => ?_⟩
  · rw [if_neg (by simpa using hbelow)]
  · rw [if_pos hlimit]
    rfl

/-! ## Damaged entries -/

/-- R40, R129: the record of a damaged entry contains a NORMAL hub. -/
theorem State.entryFault_eq (hnormal : s.hub = .normal) :
    s.entryFault i =
      s.contain { kind := .storageCheck, severity := .fatal, entry := some (i, (s.entry i).generation) } := by
  simp only [State.entryFault, State.storageCheck, hnormal]

/-- Settles O20. -/
theorem damagedEntryContainsTheHub : Obligations.DamagedEntryContainsTheHub := by
  intro s i t d e r hnormal hparity
  refine ⟨fun hopen hcredits hup hconfirmed hpending hreplay ⟨data, rest, hegress⟩ => ?send,
    fun g status credit data hup hopen hret hstatus => ?response, fun hdeadline hle => ?expiries⟩
  case send =>
    have hmay : s.maySend t = true :=
      State.maySend_iff.mpr ⟨hopen, hcredits, Link.canTake_iff.mpr ⟨hup, hconfirmed, hpending, hreplay⟩⟩
    rw [exec_send_damaged hmay hegress hparity, State.entryFault_eq hnormal]
  case response =>
    obtain ⟨x, hx⟩ := TargetStatus.ofCode_eq_some hstatus
    rw [exec_responseIntake hup hopen (responseOf_eq_some hx hret.1) hret]
    exact congrArg Host.Outcome.next
      ((State.intake_damaged (s := s.credited t credit.toNat) (r := ⟨i, g, x, _, data⟩) hparity).trans
        (State.entryFault_eq hnormal))
  case expiries =>
    have hdue : s.reached e.deadline = true := State.reached_of_le hdeadline hle
    rw [← State.entryFault_eq hnormal]
    refine ⟨fun hstate => ?_, fun hstate => ?_, fun hstate => ?_⟩
    · change execStage1Expiry i s = _
      simp [execStage1Expiry, e, hstate, hdue, hparity]
    · change execStage2Expiry i s = _
      simp [execStage2Expiry, e, hstate, hdue, hparity]
    · change execReclaimExpiry i s = _
      simp [execReclaimExpiry, e, hstate, hdue, hparity]

end Sys2Proof.Machine
end

section
/-! SUPPORT. What the row of a CONFIG request does, for every row at once, and what it refuses. Settles O23 and O24. -/

namespace Sys2Proof.Machine

variable {s : State} {p : RP} {tag : Tag} {number : BitVec 16} {data : List Byte}

/-! ## What a row does before its answer is placed -/

/-- What the row of a command does (R168). -/
def State.commandServed (s : State) (p : RP) (tag : Tag) (data : List Byte) : Command → State × Status
  | .claim => s.takeClaim p tag
  | .commit => s.takeCommit p tag
  | .abort => s.takeAbort p
  | .lockRights => s.whenNormal (s.whenRight p Rights.configure ({ s with rightsLock := true }, .ok))
  | .pop => s.whenRight p Rights.handle (s.whenValid (bankOperand data) fun b => s.popBank b (be16 data 2))
  | .clearOverflow =>
    s.whenNormal (s.whenRight p Rights.handle (s.whenValid (bankOperand data) fun b =>
      (s.setBank b { s.bank b with overflow := false }, .ok)))
  | .inject =>
    s.whenNormal (s.whenRight p Rights.test (s.whenValid (injectionOfBytes data) fun x =>
      (s.report x.bank x.report, .ok)))
  | .resetCounter =>
    s.whenNormal (s.whenRight p Rights.handle (s.whenValid (bankOperand data) fun b =>
      (s.setBank b { s.bank b with counter := { (s.bank b).counter with count := 0, tripped := false } }, .ok)))
  | .fence => s.whenNormal (s.whenRight p Rights.handle (s.whenValid (targetOperand data) fun t => s.takeFence p tag t))
  | .reopen => s.whenNormal (s.whenRight p Rights.handle (s.whenValid (targetOperand data) fun t => s.takeReopen t))

/-- What the row of a CONFIG WRITE does (R165, R166). -/
def State.writeServed (s : State) (p : RP) (tag : Tag) (number : BitVec 16) (data : List Byte) : State × Status :=
  match recordOf number with
  | some .command =>
    match Command.ofByte (byteAt data 0) with
    | some c => s.commandServed p tag data c
    | none => s.whenNormal (s, .invalid)
  | some (.port q) =>
    s.settingsWrite p (inRange 1 32 (byteAt data 1).toNat) fun n => (s.setPort q { s.port q with cap := n }).offerPort q
  | some (.rights q) =>
    s.whenNormal (s.whenRight p Rights.configure
      (if s.rightsLock then (s, .denied)
      else s.whenValid (rightsOfBytes data) fun x => ({ s with rights := upd s.rights q x }, .ok)))
  | some (.classInterval c) =>
    s.settingsWrite p (inRange 1 4095 (be16 data 0).toNat) fun n => { s with classIntervals := upd s.classIntervals c n }
  | some .reclaimInterval => s.settingsWrite p (inRange 1 255 (byteAt data 0).toNat) fun n => { s with reclaimMs := n }
  | some .leaseInterval => s.settingsWrite p (inRange 1 1000 (be16 data 0).toNat) fun n => { s with leaseMs := n }
  | some (.target t) =>
    s.settingsWrite p (inRange 1 15 (byteAt data 5).toNat) fun n => s.setTarget t { s.target t with fenceLimit := n }
  | some (.mask b) => s.settingsWrite p (maskOfBytes b data) fun m => s.setBank b { s.bank b with mask := m }
  | some (.alert b) =>
    s.settingsWrite p (alertOfBytes data) fun x => s.setBank b { s.bank b with floor := x.1, route := x.2 }
  | some (.counter b) => s.settingsWrite p (counterOfBytes data) fun x => s.storeCounter b x
  | some (.shadowRange w) =>
    let x := look (s.shadowOf p).windows w
    s.storeShadow p ((rangeOfBytes data).map fun f =>
      (s.shadowOf p).setWindow w (x.withRange f (s.parityAfterWrite x.parity)))
  | some (.shadowRouting w) =>
    let x := look (s.shadowOf p).windows w
    s.storeShadow p ((routingOfBytes data).map fun f =>
      (s.shadowOf p).setWindow w (x.withRouting f (s.parityAfterWrite x.parity)))
  | some .shadowDefault =>
    s.storeShadow p ((defaultOfBytes data).map fun f =>
      { s.shadowOf p with route := { ceiling := f.1, target := f.2, parity := true } })
  | _ => s.whenNormal (s, .invalid)

/-- A CONFIG WRITE that no other row serves is refused (R165). -/
theorem exec_configWrite_refused (h : s.servesWrite p tag number data) (hrefused : refusedWrite (recordOf number) data = true) :
    exec (.configWrite p) s = .next ((s.whenNormal (s, .invalid)).1.answered p tag (s.whenNormal (s, .invalid)).2 []) := by
  change execConfigWrite p s = _
  simp only [execConfigWrite, State.writeHead_eq h, hrefused, if_true, finishWrite_eq]

/-- R144, R165: a CONFIG WRITE at a head with room is served by its row, which answers it with its status. -/
theorem exec_writeRow (h : s.servesWrite p tag number data) :
    exec (writeRow p number data) s =
      .next ((s.writeServed p tag number data).1.answered p tag (s.writeServed p tag number data).2 []) := by
  have hwrite : ∀ r (x : State × Status), recordOf number = some r → ∀ run, run tag r data = some x →
      (.next (s.serveWrite p run) : Result) = .next (x.1.answered p tag x.2 []) :=
    fun r x hr run hx => congrArg Host.Outcome.next (State.serveWrite_eq h hr hx)
  cases hr : recordOf number with
  | none =>
    simp only [writeRow, State.writeServed, hr]
    exact exec_configWrite_refused h (by rw [hr]; rfl)
  | some r =>
    cases r
    case command =>
      cases hc : Command.ofByte (byteAt data 0) with
      | none =>
        simp only [writeRow, State.writeServed, hr, hc]
        exact exec_configWrite_refused h (by rw [hr]; simp [refusedWrite, hc])
      | some c =>
        cases c <;> simp only [writeRow, State.writeServed, hr, hc, State.commandServed] <;>
          exact hwrite _ _ hr _ (if_pos hc)
    case port | rights | classInterval | reclaimInterval | leaseInterval | target | mask | alert | counter | shadowRange |
        shadowRouting | shadowDefault =>
      simp only [writeRow, State.writeServed, hr]
      exact hwrite _ _ hr _ rfl
    all_goals
      simp only [writeRow, State.writeServed, hr]
      exact exec_configWrite_refused h (by rw [hr]; rfl)

/-- The effect of a command is one of its row (R168). -/
theorem State.commandServed_effect {c : Command} (hrow : Command.ofByte (byteAt data 0) = some c)
    (hr : recordOf number = some .command) : Effect (writeRow p number data) p s (s.commandServed p tag data c).1 := by
  cases c <;> simp only [writeRow, hr, hrow, State.commandServed]
  case claim => exact State.takeClaim_effect
  case commit => exact State.takeCommit_effect
  case abort => exact State.takeAbort_effect
  case lockRights => exact State.lockRights_effect
  case pop => exact .whenRight (.whenValid fun b _ => State.popBank_effect b _)
  case clearOverflow => exact .whenNormal fun _ => .whenRight (.whenValid fun b _ => State.clearOverflow_effect b)
  case inject => exact .whenNormal fun _ => .whenRight (.whenValid fun x _ => .report _ _)
  case resetCounter => exact .whenNormal fun _ => .whenRight (.whenValid fun b _ => State.resetCounter_effect b)
  case fence => exact .whenNormal fun _ => .whenRight (.whenValid fun t _ => State.takeFence_effect)
  case reopen => exact .whenNormal fun hn => .whenRight (.whenValid fun t _ => State.takeReopen_effect hn)

theorem State.writeServed_effect : Effect (writeRow p number data) p s (s.writeServed p tag number data).1 := by
  have hinvalid : ∀ c, Effect c p s (s.whenNormal (s, .invalid)).1 := fun _ => .whenNormal fun _ => .refl
  cases hr : recordOf number with
  | none => simp only [State.writeServed, hr]; exact hinvalid _
  | some r =>
    cases r
    case command =>
      cases hc : Command.ofByte (byteAt data 0) with
      | none => simp only [State.writeServed, hr, hc]; exact hinvalid _
      | some c =>
        simp only [State.writeServed, hr, hc]
        exact State.commandServed_effect hc hr
    all_goals simp only [writeRow, State.writeServed, hr]
    case port q => exact .settingsWrite fun n hn => State.cap_effect q hn
    case rights q => exact State.rightsWrite_effect _
    case classInterval k => exact .settingsWrite fun n hn => State.classIntervals_effect k hn
    case reclaimInterval => exact .settingsWrite fun n hn => State.reclaimMs_effect hn
    case leaseInterval => exact .settingsWrite fun n hn => State.leaseMs_effect hn
    case target t => exact .settingsWrite fun n hn => State.fenceLimit_effect hn
    case mask b => exact .settingsWrite fun m _ => .bankSettings m (s.bank b).floor (s.bank b).route
    case alert b => exact .settingsWrite fun x _ => .bankSettings (s.bank b).mask x.1 x.2
    case counter b => exact .settingsWrite fun x hx => State.storeCounter_effect hx
    case shadowRange | shadowRouting | shadowDefault => exact State.storeShadow_effect _
    all_goals exact hinvalid _

/-! ## What a row checks first -/

/-- R93, R131, R165: every row but POP asks first for a NORMAL hub, and then for its right. -/
theorem State.writeServed_checked :
    (writeRow p number data = .pop p ∧ ∃ y, s.writeServed p tag number data = s.whenRight p Rights.handle y) ∨
    ∃ y, s.writeServed p tag number data = s.whenNormal y ∧
      ∀ right, rightOfRow (writeRow p number data) = some right → ∃ z, y = s.whenRight p right z := by
  have hinvalid : ∃ y, s.whenNormal (s, Status.invalid) = s.whenNormal y ∧
      ∀ right, rightOfRow (.configWrite p) = some right → ∃ z, y = s.whenRight p right z := ⟨_, rfl, nofun⟩
  have hplain : ∀ (y : State × Status) (i : Instr), rightOfRow i = none → ∃ y', s.whenNormal y = s.whenNormal y' ∧
      ∀ right, rightOfRow i = some right → ∃ z, y' = s.whenRight p right z :=
    fun y i hi => ⟨y, rfl, fun right h => absurd (hi.symm.trans h) nofun⟩
  have hright : ∀ (i : Instr) (r : Rights → Bool) (y : State × Status), rightOfRow i = some r →
      ∃ y', s.whenNormal (s.whenRight p r y) = s.whenNormal y' ∧
        ∀ right, rightOfRow i = some right → ∃ z, y' = s.whenRight p right z :=
    fun i r y hi => ⟨_, rfl, fun right h => ⟨y, by rw [Option.some.inj (hi.symm.trans h)]⟩⟩
  cases hr : recordOf number with
  | none => simp only [State.writeServed, writeRow, hr]; exact .inr hinvalid
  | some r =>
    cases r
    case command =>
      cases hc : Command.ofByte (byteAt data 0) with
      | none => simp only [State.writeServed, writeRow, hr, hc]; exact .inr hinvalid
      | some c =>
        cases c <;> simp only [State.writeServed, writeRow, hr, hc, State.commandServed]
        case pop => exact .inl ⟨trivial, _, rfl⟩
        case commit | abort => exact .inr (hplain _ _ rfl)
        all_goals exact .inr (hright _ _ _ rfl)
    all_goals simp only [writeRow, State.writeServed, hr]
    case shadowRange | shadowRouting | shadowDefault => exact .inr (hplain _ _ rfl)
    case port | rights | classInterval | reclaimInterval | leaseInterval | target | mask | alert | counter =>
      exact .inr (hright _ _ _ rfl)
    all_goals exact .inr hinvalid

theorem State.writeServed_contained (hcontained : s.hub = .contained) (hpop : writeRow p number data ≠ .pop p) :
    s.writeServed p tag number data = (s, .hubFault) := by
  rcases State.writeServed_checked (s := s) (p := p) (tag := tag) (number := number) (data := data) with ⟨h, -⟩ | ⟨y, hy, -⟩
  · exact absurd h hpop
  · rw [hy, State.whenNormal_contained hcontained]

theorem State.writeServed_denied {right : Rights → Bool} (hn : s.hub = .normal)
    (hrow : rightOfRow (writeRow p number data) = some right) (hdeny : right (s.rightsOf p) = false) :
    s.writeServed p tag number data = (s, .denied) := by
  rcases State.writeServed_checked (s := s) (p := p) (tag := tag) (number := number) (data := data) with ⟨h, y, hy⟩ | ⟨y, hy, hz⟩
  · rw [h] at hrow
    obtain rfl : Rights.handle = right := Option.some.inj hrow
    rw [hy, State.whenRight_denied hdeny]
  · obtain ⟨z, rfl⟩ := hz right hrow
    rw [hy, State.whenNormal_eq hn, State.whenRight_denied hdeny]

/-! ## What a row reads -/

/-- What the row of a CONFIG READ does and shows (R165, R166). -/
def State.readServed (s : State) (p : RP) (tag : Tag) (number : BitVec 16) : State × Status × List Byte :=
  match recordOf number with
  | some (.headFirst b) =>
    let copy := (s.bank b).records.head?
    (s.setPort p { s.port p with snapshot := some { bank := b, copy } }, .ok, headFirstBytes s.free copy)
  | some (.activeRange w) =>
    s.checkedRead p tag (look s.active.windows w).parity (rangeBytes (look s.active.windows w))
  | some (.activeRouting w) =>
    s.checkedRead p tag (look s.active.windows w).parity (routingBytes s.free (look s.active.windows w))
  | some .activeDefault => s.checkedRead p tag s.active.route.parity (defaultBytes s.free s.active.route)
  | some (.shadowRange w) =>
    s.readShadow p tag fun t => ((look t.windows w).parity, rangeBytes (look t.windows w))
  | some (.shadowRouting w) =>
    s.readShadow p tag fun t => ((look t.windows w).parity, routingBytes s.free (look t.windows w))
  | some .shadowDefault => s.readShadow p tag fun t => (t.route.parity, defaultBytes s.free t.route)
  | some r => (s, (s.plainRead p r).getD (.invalid, ones 8))
  | none => (s, .invalid, ones 8)

/-- A CONFIG READ of a record without a row of its own (R165). -/
theorem exec_configWrite_plain {r : RecordId} {a : Status × List Byte} (h : s.servesRead p tag number)
    (hr : recordOf number = some r) (ha : s.plainRead p r = some a) :
    exec (.configWrite p) s = .next (finishRead p tag (s, a)) := by
  change execConfigWrite p s = _
  simp only [execConfigWrite, State.writeHead_of_read h, State.readHead_eq h, hr, ha]

theorem exec_configWrite_unused (h : s.servesRead p tag number) (hr : recordOf number = none) :
    exec (.configWrite p) s = .next (finishRead p tag (s, .invalid, ones 8)) := by
  change execConfigWrite p s = _
  simp only [execConfigWrite, State.writeHead_of_read h, State.readHead_eq h, hr]

/-- R144, R165: a CONFIG READ at a head with room is served by its row. -/
theorem exec_readRow (h : s.servesRead p tag number) :
    exec (readRow p number) s = .next (finishRead p tag (s.readServed p tag number)) := by
  have hread : ∀ r (x : State × Status × List Byte), recordOf number = some r → ∀ run, run tag r = some x →
      (.next (s.serveRead p run) : Result) = .next (finishRead p tag x) :=
    fun r x hr run hx => congrArg Host.Outcome.next (State.serveRead_eq h hr hx)
  cases hr : recordOf number with
  | none =>
    simp only [readRow, State.readServed, hr]
    exact exec_configWrite_unused h hr
  | some r =>
    cases r <;> simp only [readRow, State.readServed, hr]
    case headFirst | activeRange | activeRouting | activeDefault | shadowRange | shadowRouting | shadowDefault =>
      exact hread _ _ hr _ rfl
    all_goals exact exec_configWrite_plain h hr rfl

theorem State.readServed_effect (hhead : (s.port p).ingress ≠ []) :
    Effect (readRow p number) p s (s.readServed p tag number).1 := by
  cases hr : recordOf number with
  | none => simp only [State.readServed, hr]; exact .refl
  | some r =>
    cases r <;> simp only [readRow, State.readServed, hr]
    case headFirst b => exact State.snapshot_effect hhead _
    case activeRange | activeRouting | activeDefault => exact State.checkedRead_effect _ _
    case shadowRange | shadowRouting | shadowDefault => exact State.readShadow_effect _
    all_goals exact .refl

/-! ### Every record has eight bytes -/

section Lengths

variable (free : Nat → Byte)

theorem padded_length {stated : List Byte} (h : stated.length ≤ 8) : (padded free stated).length = 8 := by
  rw [padded, List.length_append, List.length_map, List.length_drop, List.length_range]
  omega

theorem headFirstBytes_length (r : Option Rec) : (headFirstBytes free r).length = 8 := by cases r <;> rfl

theorem headSecondBytes_length (r : Option Rec) : (headSecondBytes free r).length = 8 := by cases r <;> rfl

theorem headThirdBytes_length (r : Option Rec) : (headThirdBytes free r).length = 8 := by
  cases r with
  | none => rfl
  | some r => cases hv : r.version <;> cases ha : r.address <;> simp [headThirdBytes, hv, ha]

end Lengths

theorem State.furtherPart_length {b : Bank} {part : Option Rec → List Byte} (h : ∀ r, (part r).length = 8) :
    (s.furtherPart p b part).2.length = 8 := by
  rw [State.furtherPart]
  split
  · split
    · exact h _
    · rfl
  · rfl

theorem State.checkedRead_length {parity : Bool} {bytes : List Byte} (h : bytes.length = 8) :
    (s.checkedRead p tag parity bytes).2.2.length = 8 := by
  rw [State.checkedRead]
  split
  · exact h
  · rfl

theorem State.readShadow_length {read : Table → Bool × List Byte} (h : ∀ t, (read t).2.length = 8) :
    (s.readShadow p tag read).2.2.length = 8 := by
  rw [State.readShadow]
  split
  · exact State.checkedRead_length (h _)
  · rfl

theorem State.readServed_length : (s.readServed p tag number).2.2.length = 8 := by
  cases hr : recordOf number with
  | none => simp only [State.readServed, hr]; rfl
  | some r =>
    cases r <;> simp only [State.readServed, hr]
    case headFirst b => exact headFirstBytes_length _ _
    case headSecond b => exact State.furtherPart_length (headSecondBytes_length _)
    case headThird b => exact State.furtherPart_length (headThirdBytes_length _)
    case activeRange | activeRouting | activeDefault => exact State.checkedRead_length rfl
    case shadowRange | shadowRouting | shadowDefault => exact State.readShadow_length fun _ => rfl
    case editState => cases hh : s.holder <;> simp [State.plainRead, State.editBytes, hh]
    case rights | classInterval | reclaimInterval | leaseInterval | mask | alert | counter =>
      exact padded_length _ (by simp [counterBytes])
    all_goals rfl

theorem State.answered_port (status : Status) (bytes : List Byte) :
    (s.answered p tag status bytes).port p = (s.port p).withoutHead [{ tag, status, data := bytes }] :=
  State.port_setPort_same ..

theorem State.readAnswered_port (status : Status) (bytes : List Byte) :
    (s.readAnswered p tag status bytes).port p = (s.port p).withoutHead [{ tag, status, data := bytes }] :=
  State.port_setPort_same ..

/-- Settles O23: the effect of every row leaves the head of its port where it stood, and the answer joins the queue behind
it. -/
theorem everyConfigRequestIsServedByItsRow : Obligations.EveryConfigRequestIsServedByItsRow := by
  intro s t p tag number
  refine ⟨fun data h hexec => ?write, fun h hexec => ?read⟩
  case write =>
    have heffect := State.writeServed_effect (s := s) (p := p) (tag := tag) (number := number) (data := data)
    obtain ⟨ended, hresponses, hended⟩ := heffect.responses
    obtain rfl := Host.Outcome.next.inj ((exec_writeRow h).symm.trans hexec)
    simp only [State.answered_port, RequesterPort.withoutHead, heffect.ingress, heffect.due, hresponses]
    exact ⟨trivial, trivial, _, ended, rfl, hended⟩
  case read =>
    have heffect := State.readServed_effect (tag := tag) (number := number) (ne_nil_of_atHead h.1)
    obtain ⟨ended, hresponses, hended⟩ := heffect.responses
    obtain rfl := Host.Outcome.next.inj ((exec_readRow h).symm.trans hexec)
    have hfence : readRow p number ≠ .fence p := by
      rw [readRow]
      split <;> nofun
    have hhub : ∀ status bytes, ((s.readServed p tag number).1.readAnswered p tag status bytes).hub =
        (s.readServed p tag number).1.hub := fun _ _ => rfl
    rw [finishRead_eq, State.readAnswered_port]
    simp only [RequesterPort.withoutHead, heffect.ingress, heffect.due, hresponses, hhub]
    refine ⟨trivial, trivial, _, _, ended, rfl, ?_, fun hstatus => if_neg hstatus, hended hfence⟩
    split
    · exact State.readServed_length
    · rfl

/-! ## The record space -/

theorem Command.ofByte_eq_none {b : Byte} (h : b.toNat ∉ [1, 2, 3, 4, 0x10, 0x11, 0x12, 0x13, 0x20, 0x21]) :
    Command.ofByte b = none := by
  simp only [List.mem_cons, List.not_mem_nil, or_false, not_or] at h
  simp [Command.ofByte, ← BitVec.toNat_inj, h]

/-- R165, R166: a record that the record space lets be written is one of those it names. -/
theorem refusedWrite_of_not_writable {n : Nat} (hn : number.toNat = n)
    (h : ¬(n = 0x0008 ∨ ((0x0010 ≤ n ∧ n < 0x0014) ∨ (0x0018 ≤ n ∧ n < 0x001C) ∨ (0x0020 ≤ n ∧ n < 0x0026) ∨
      (0x0030 ≤ n ∧ n < 0x0036) ∨ (0x0300 ≤ n ∧ n ≤ 0x0320)) ∨ (0x0100 ≤ n ∧ n < 0x0158 ∧ 4 ≤ n % 8 ∧ n % 8 ≤ 6))) :
    refusedWrite (recordOf number) data = true := by
  have hbank : ∀ b k, ¬(4 ≤ k ∧ k ≤ 6) → refusedWrite (bankRecord b k) data = true := fun b k hk => by
    unfold bankRecord
    split <;> first | rfl | omega
  have hbanks : ∀ (o : Option Bank) (k : Nat), ¬(4 ≤ k ∧ k ≤ 6) →
      refusedWrite (o.bind fun b => bankRecord b k) data = true := fun o k hk => by
    cases o with
    | none => rfl
    | some b => exact hbank b k hk
  have hwindow : ∀ (o : Option (Fin 16)), refusedWrite (o.map fun w =>
      if n % 2 = 0 then RecordId.activeRange w else .activeRouting w) data = true := fun o => by
    cases o with
    | none => rfl
    | some w => rw [Option.map_some]; split <;> rfl
  have hnumber : ∀ k : BitVec 16, n = k.toNat → number = k := fun k hk => BitVec.eq_of_toNat_eq (hn.trans hk)
  by_cases hstatus : n = 0x0000 ∨ n = 0x0002 ∨ n = 0x0003 ∨ n = 0x0004 ∨ n = 0x0005
  · rcases hstatus with h | h | h | h | h
    · rw [hnumber 0x0000 h]; rfl
    · rw [hnumber 0x0002 h]; rfl
    · rw [hnumber 0x0003 h]; rfl
    · rw [hnumber 0x0004 h]; rfl
    · rw [hnumber 0x0005 h]; rfl
  rw [recordOf, hn]
  iterate 12 rw [if_neg (by omega)]
  by_cases hbanked : 0x0100 ≤ n ∧ n < 0x0158
  · rw [if_pos hbanked]
    exact hbanks _ _ (by omega)
  rw [if_neg hbanked]
  by_cases hactive : 0x0200 ≤ n ∧ n < 0x0220
  · rw [if_pos hactive]
    exact hwindow _
  rw [if_neg hactive]
  by_cases hroute : n = 0x0220
  · rw [if_pos hroute]
    rfl
  · rw [if_neg hroute, if_neg (by omega), if_neg (by omega)]
    rfl

/-- R166: what is not readable is not mapped, but for the command record. -/
theorem recordOf_of_not_readable {n : Nat} (hn : number.toNat = n)
    (h : ¬(n = 0x0000 ∨ (0x0002 ≤ n ∧ n ≤ 0x0005) ∨ ((0x0010 ≤ n ∧ n < 0x0014) ∨ (0x0018 ≤ n ∧ n < 0x001C) ∨
      (0x0020 ≤ n ∧ n < 0x0026) ∨ (0x0030 ≤ n ∧ n < 0x0036) ∨ (0x0300 ≤ n ∧ n ≤ 0x0320)) ∨
      (0x0100 ≤ n ∧ n < 0x0158 ∧ n % 8 ≤ 6) ∨ (0x0200 ≤ n ∧ n ≤ 0x0220))) :
    recordOf number = none ∨ recordOf number = some .command := by
  have hbank : ∀ (o : Option Bank) (k : Nat), k = 7 → (o.bind fun b => bankRecord b k) = none := fun o k hk => by
    subst hk
    cases o <;> rfl
  by_cases hcommand : n = 0x0008
  · exact .inr (recordOf_command.mpr (BitVec.eq_of_toNat_eq (hn.trans hcommand)))
  · refine .inl ?_
    rw [recordOf, hn]
    iterate 12 rw [if_neg (by omega)]
    split
    · exact hbank _ _ (by omega)
    · iterate 4 rw [if_neg (by omega)]

/-- Settles O24. -/
theorem refusedConfigRequestsInTheirOrder : Obligations.RefusedConfigRequestsInTheirOrder := by
  intro s p tag number data n setting writable readable
  refine ⟨fun h hcontained hpop => ?contained, fun right h hn hrow hdeny => ?denied, fun hn h hrefused => ?write,
    fun h hread => ?read⟩
  case contained => rw [exec_writeRow h, State.writeServed_contained hcontained hpop]
  case denied => rw [exec_writeRow h, State.writeServed_denied hn hrow hdeny]
  case write =>
    have hrow : refusedWrite (recordOf number) data = true := by
      rcases hrefused with hnot | ⟨hcommand, hcode⟩
      · exact refusedWrite_of_not_writable rfl hnot
      · rw [recordOf_command.mpr (BitVec.eq_of_toNat_eq hcommand)]
        simp [refusedWrite, Command.ofByte_eq_none hcode]
    rw [exec_configWrite_refused h hrow, State.whenNormal_eq hn]
  case read =>
    rcases recordOf_of_not_readable rfl hread with hnone | hcommand
    · rw [exec_configWrite_unused h hnone, finishRead_refused _ _ _ .invalid _ nofun]
    · rw [exec_configWrite_plain h hcommand rfl, finishRead_refused _ _ _ .invalid _ nofun]

end Sys2Proof.Machine
end

section
/-! SUPPORT. The claim, the commit, the shadow writes and the reads of the tables, and what a parity failure in them does.
Settles O21, O26, O27, O29 and O30. -/

namespace Sys2Proof.Machine

variable {s : State} {p : RP} {tag : Tag} {number : BitVec 16} {data : List Byte} {c : Claim}

/-! ## CLAIM and COMMIT -/

theorem exec_claim (h : s.servesCommand p tag 0x01 data) :
    exec (.claim p) s = .next ((s.takeClaim p tag).1.answered p tag (s.takeClaim p tag).2 []) :=
  congrArg Host.Outcome.next (State.serveCommand_eq h rfl)

theorem exec_commit (h : s.servesCommand p tag 0x02 data) :
    exec (.commit p) s = .next ((s.takeCommit p tag).1.answered p tag (s.takeCommit p tag).2 []) :=
  congrArg Host.Outcome.next (State.serveCommand_eq h rfl)

/-- R129: a parity failure found by a command of a NORMAL hub contains it. -/
theorem State.commandFault_eq (hn : s.hub = .normal) :
    s.commandFault p tag =
      s.contain { kind := .storageCheck, severity := .fatal, port := some p, tag := some tag } := by
  rw [State.commandFault, State.storageCheck, hn]

/-- Settles O26. -/
theorem claimCopiesRestartsOrIsBusy : Obligations.ClaimCopiesRestartsOrIsBusy := by
  intro s p tag data h hn hr held
  rw [exec_claim h, State.takeClaim, State.whenNormal_eq hn, State.whenRight_eq hr]
  refine ⟨fun hnone hsound => ?_, fun hnone hdamaged => ?_, fun c hc => ⟨fun hp => ?_, fun hp => ?_⟩⟩
  · simp only [hnone, hsound, if_true]
    rfl
  · simp only [hnone, hdamaged, Bool.false_eq_true, if_false, State.commandFault_eq hn]
  · simp only [hc, hp, if_true]
    rfl
  · simp only [hc, if_neg hp]

/-- R26, R27, R28: a COMMIT of the holder is judged by its shadow. -/
theorem State.takeCommit_holder (hn : s.hub = .normal) (hc : s.claim = some c) (hp : c.holder = p) :
    s.takeCommit p tag =
      if !c.shadow.sound then (s.commandFault p tag, .hubFault)
      else if c.shadow.commits then (s.install c.shadow, .ok)
      else (s.withClaim p c.shadow, .invalid) := by
  rw [State.takeCommit, State.whenNormal_eq hn, State.whenHolder_eq hc hp]

theorem State.takeCommit_busy (hn : s.hub = .normal) (h : ∀ x, s.claim = some x → x.holder ≠ p) :
    s.takeCommit p tag = (s, .busy) := by
  rw [State.takeCommit, State.whenNormal_eq hn, State.whenHolder_busy h]

/-- R1, R8: every head is offered again behind a commit. -/
theorem State.install_port (x : Table) (q : RP) :
    (s.install x).port q = { s.port q with outcome := none, offerDue := true } := look_tab _ q

/-- Settles O27. -/
theorem commitInstallsTheWholeShadowOrNothing : Obligations.CommitInstallsTheWholeShadowOrNothing := by
  intro s p tag data c h hn passes installed
  rw [exec_commit h]
  refine ⟨fun hc hp hsound hpasses => ?installed, fun hc hp hsound hfails => ?invalid, fun hnot => ?busy⟩
  case installed =>
    have hcommits : c.shadow.commits = true := Table.commits_iff.mpr hpasses
    refine ⟨_, rfl, fun q => ?_, ?_⟩
    · rw [State.takeCommit_holder hn hc hp, if_neg (by simp [hsound]), if_pos hcommits]
      by_cases hq : p = q
      · subst hq
        simp only [State.answered_port, State.install_port]
        rfl
      · simp only [State.answered, State.port_setPort_ne _ _ hq, State.install_port]
        rfl
    · rw [State.takeCommit_holder hn hc hp, if_neg (by simp [hsound]), if_pos hcommits]
      rfl
  case invalid =>
    have hcommits : ¬c.shadow.commits = true := mt Table.commits_iff.mp hfails
    rw [State.takeCommit_holder hn hc hp, if_neg (by simp [hsound]), if_neg hcommits, ← hp]
    rfl
  case busy => rw [State.takeCommit_busy hn hnot]

/-! ## The fields of a shadow write -/

section Fields

variable {b : Byte}

theorem flagOfByte_eq (b : Byte) :
    flagOfByte b = if b.toNat = 0 then some false else if b.toNat = 1 then some true else none :=
  if_congr BitVec.toNat_inj.symm rfl (if_congr BitVec.toNat_inj.symm rfl rfl)

theorem targetOfCode_eq (b : Byte) :
    targetOfCode b = if b.toNat = 7 then some none else (finOf 6 b.toNat).map some :=
  if_congr BitVec.toNat_inj.symm rfl rfl

theorem flagOfByte_eq_some (h : b.toNat ≤ 1) : flagOfByte b = some (decide (b.toNat = 1)) := by
  rw [flagOfByte_eq]
  split
  · next h0 => simp [h0]
  · have h1 : b.toNat = 1 := by omega
    simp [h1]

theorem flagOfByte_eq_none (h : 1 < b.toNat) : flagOfByte b = none := by
  rw [flagOfByte_eq, if_neg (by omega), if_neg (by omega)]

theorem targetOfCode_eq_some {t : Option TP} (h : (b.toNat = 7 ∧ t = none) ∨ ∃ y : TP, y.val = b.toNat ∧ t = some y) :
    targetOfCode b = some t := by
  rw [targetOfCode_eq]
  rcases h with ⟨h, rfl⟩ | ⟨y, hy, rfl⟩
  · rw [if_pos h]
  · rw [if_neg (by omega), finOf_eq_some.mpr hy.symm]
    rfl

theorem targetOfCode_eq_none (h : b.toNat = 6 ∨ 7 < b.toNat) : targetOfCode b = none := by
  rw [targetOfCode_eq, if_neg (by omega), finOf_eq_none.mpr (by omega)]
  rfl

theorem portSetOfByte_eq_some (h : b.toNat ≤ 15) : portSetOfByte b = some (BitVec.ofNat 4 b.toNat) := by
  rw [portSetOfByte, if_pos (by omega)]
  refine congrArg some (BitVec.eq_of_toNat_eq ?_)
  rw [BitVec.extractLsb'_toNat, BitVec.toNat_ofNat, Nat.shiftRight_zero]

theorem portSetOfByte_eq_none (h : 15 < b.toNat) : portSetOfByte b = none := if_neg (by omega)

end Fields

/-- R24: the pages of a window range stand most significant byte first, in 28 bits each. -/
theorem rangeOfBytes_eq_some (h : (byteAt data 0).toNat ≤ 1) :
    ∃ base limit, rangeOfBytes data = some (decide ((byteAt data 0).toNat = 1), base, limit) ∧
      base.toNat = (byteAt data 1).toNat * 2 ^ 20 + (byteAt data 2).toNat * 2 ^ 12 + (byteAt data 3).toNat * 2 ^ 4 +
        (byteAt data 4).toNat / 16 ∧
      limit.toNat = (byteAt data 4).toNat % 16 * 2 ^ 24 + (byteAt data 5).toNat * 2 ^ 16 + (byteAt data 6).toNat * 2 ^ 8 +
        (byteAt data 7).toNat := by
  have h1 := (byteAt data 1).isLt
  have h2 := (byteAt data 2).isLt
  have h3 := (byteAt data 3).isLt
  have h4 := (byteAt data 4).isLt
  have h5 := (byteAt data 5).isLt
  have h6 := (byteAt data 6).isLt
  have h7 := (byteAt data 7).isLt
  refine ⟨_, _, by rw [rangeOfBytes, flagOfByte_eq_some h]; rfl, ?_, ?_⟩
  · simp only [BitVec.extractLsb'_toNat, be32_toNat, be16_toNat, Nat.shiftRight_eq_div_pow, Nat.reduceAdd]
    omega
  · simp only [BitVec.extractLsb'_toNat, be32_toNat, be16_toNat, Nat.shiftRight_eq_div_pow, Nat.reduceAdd]
    omega

theorem rangeOfBytes_eq_none (h : 1 < (byteAt data 0).toNat) : rangeOfBytes data = none := by
  rw [rangeOfBytes, flagOfByte_eq_none h]
  rfl

theorem routingOfBytes_eq_some {r v : Option TP} {k : Fin 4} (hr : targetOfCode (byteAt data 0) = some r)
    (hv : targetOfCode (byteAt data 1) = some v) (h2 : (byteAt data 2).toNat ≤ 15) (h3 : (byteAt data 3).toNat ≤ 15)
    (h4 : (byteAt data 4).toNat ≤ 1) (h5 : k.val = (byteAt data 5).toNat) :
    routingOfBytes data = some
      { readTarget := r, writeTarget := v, readRights := BitVec.ofNat 4 (byteAt data 2).toNat,
        writeRights := BitVec.ofNat 4 (byteAt data 3).toNat, atomic := decide ((byteAt data 4).toNat = 1), cls := k } := by
  simp only [routingOfBytes, hr, hv, portSetOfByte_eq_some h2, portSetOfByte_eq_some h3, flagOfByte_eq_some h4,
    finOf_eq_some.mpr h5.symm, Option.bind_eq_bind, Option.bind_some]
  rfl

theorem routingOfBytes_eq_none (h : targetOfCode (byteAt data 0) = none ∨ targetOfCode (byteAt data 1) = none ∨
    15 < (byteAt data 2).toNat ∨ 15 < (byteAt data 3).toNat ∨ 1 < (byteAt data 4).toNat ∨ 3 < (byteAt data 5).toNat) :
    routingOfBytes data = none := by
  by_contra hne
  obtain ⟨r, hr⟩ := Option.ne_none_iff_exists'.mp hne
  simp only [routingOfBytes, Option.bind_eq_bind, Option.bind_eq_some_iff] at hr
  obtain ⟨r, h0, v, h1, rr, h2, wr, h3, a, h4, k, h5, -⟩ := hr
  rcases h with h | h | h | h | h | h
  · exact absurd (h.symm.trans h0) nofun
  · exact absurd (h.symm.trans h1) nofun
  · exact absurd ((portSetOfByte_eq_none h).symm.trans h2) nofun
  · exact absurd ((portSetOfByte_eq_none h).symm.trans h3) nofun
  · exact absurd ((flagOfByte_eq_none h).symm.trans h4) nofun
  · exact absurd ((finOf_eq_none.mpr h).symm.trans h5) nofun

theorem defaultOfBytes_eq_some {r : Option TP} (hr : targetOfCode (byteAt data 4) = some r)
    (h : (be32 data 0).toNat ≤ 2 ^ 28) : defaultOfBytes data = some ((be32 data 0).toNat, r) := by
  simp only [defaultOfBytes, hr, Option.bind_eq_bind, Option.bind_some, if_pos h]
  rfl

theorem defaultOfBytes_eq_none (h : targetOfCode (byteAt data 4) = none ∨ 2 ^ 28 < (be32 data 0).toNat) :
    defaultOfBytes data = none := by
  rw [defaultOfBytes]
  cases hr : targetOfCode (byteAt data 4) with
  | none => rfl
  | some r =>
    have hbig := h.resolve_left (by simp [hr])
    simp only [Option.bind_eq_bind, Option.bind_some, if_neg (Nat.not_le.mpr hbig)]

/-! ## Shadow writes -/

/-- R7: a sound table has no damaged item. -/
theorem Table.sound_iff {t : Table} :
    t.sound = true ↔ (∀ w, (look t.windows w).parity = true) ∧ t.route.parity = true := by
  simp [Table.sound, toList_eq_map_look]

theorem exec_shadowWrite (h : s.servesWrite p tag number data)
    (hrow : writeRow p number data = .shadowWrite p) :
    exec (.shadowWrite p) s =
      .next ((s.writeServed p tag number data).1.answered p tag (s.writeServed p tag number data).2 []) :=
  hrow ▸ exec_writeRow h

theorem State.storeShadow_holder (hn : s.hub = .normal) (hc : s.claim = some c) (hp : c.holder = p) (t : Table) :
    s.storeShadow p (some t) =
      ({ s with
        claim := some { holder := p, deadline := s.clock + 1000 * s.leaseMs, shadow := t },
        freeCount := s.freeCount + 1 }, .ok) := by
  rw [State.storeShadow, State.whenNormal_eq hn, State.whenHolder_eq hc hp]
  rfl

theorem State.storeShadow_invalid (hn : s.hub = .normal) (hc : s.claim = some c) (hp : c.holder = p) :
    s.storeShadow p none = (s, .invalid) := by
  rw [State.storeShadow, State.whenNormal_eq hn, State.whenHolder_eq hc hp]
  rfl

theorem State.storeShadow_busy (hn : s.hub = .normal) (h : ∀ x, s.claim = some x → x.holder ≠ p) (t : Option Table) :
    s.storeShadow p t = (s, .busy) := by
  rw [State.storeShadow, State.whenNormal_eq hn, State.whenHolder_busy h]

theorem State.shadowOf_eq (hc : s.claim = some c) (hp : c.holder = p) : s.shadowOf p = c.shadow := by
  rw [State.shadowOf, State.claimOf_eq hc hp]
  rfl

/-- Log entry 6: the write of a sound window leaves it sound. -/
theorem State.parityAfterWrite_sound : s.parityAfterWrite true = true := Bool.true_or _

section Numbers

variable (w : Fin 16)

theorem recordOf_shadowRouting_at : recordOf (BitVec.ofNat 16 (0x0301 + 2 * w.val)) = some (.shadowRouting w) := by
  rw [← recordOf_shadowRouting w, show 0x0301 + 2 * w.val = 0x0300 + 2 * w.val + 1 by omega]

theorem recordOf_activeRouting_at : recordOf (BitVec.ofNat 16 (0x0201 + 2 * w.val)) = some (.activeRouting w) := by
  rw [← recordOf_activeRouting w, show 0x0201 + 2 * w.val = 0x0200 + 2 * w.val + 1 by omega]

end Numbers

/-- R166: the shadow's records. -/
theorem recordOf_shadow
    (h : (0x0300 ≤ number.toNat ∧ number.toNat < 0x0320) ∨ number.toNat = 0x0320) :
    (∃ w, recordOf number = some (.shadowRange w)) ∨ (∃ w, recordOf number = some (.shadowRouting w)) ∨
      recordOf number = some .shadowDefault := by
  have hnumber : ∀ n, n < 2 ^ 16 → number.toNat = n → number = BitVec.ofNat 16 n := fun n hn h =>
    BitVec.eq_of_toNat_eq (by rw [BitVec.toNat_ofNat, h, Nat.mod_eq_of_lt hn])
  rcases h with ⟨hlo, hhi⟩ | h
  · have hw : (number.toNat - 0x0300) / 2 < 16 := by omega
    rcases Nat.mod_two_eq_zero_or_one (number.toNat - 0x0300) with heven | hodd
    · have hn := hnumber (0x0300 + 2 * ((number.toNat - 0x0300) / 2)) (by omega) (by omega)
      exact .inl ⟨⟨_, hw⟩, (congrArg recordOf hn).trans (recordOf_shadowRange ⟨_, hw⟩)⟩
    · have hn := hnumber (0x0300 + 2 * ((number.toNat - 0x0300) / 2) + 1) (by omega) (by omega)
      exact .inr (.inl ⟨⟨_, hw⟩, (congrArg recordOf hn).trans (recordOf_shadowRouting ⟨_, hw⟩)⟩)
  · rw [hnumber 0x0320 (by omega) h]
    exact .inr (.inr (by decide))

theorem shadow_rows (h : (0x0300 ≤ number.toNat ∧ number.toNat < 0x0320) ∨ number.toNat = 0x0320) :
    writeRow p number data = .shadowWrite p ∧ readRow p number = .shadowRead p := by
  rcases recordOf_shadow h with ⟨w, hr⟩ | ⟨w, hr⟩ | hr <;> simp only [writeRow, readRow, hr, and_self]

/-- Settles O29. -/
theorem shadowWriteStoresWholeRecords : Obligations.ShadowWriteStoresWholeRecords := by
  intro s p tag data w c hn hc hp hsound x byte stored target range routing
  have hparity : x.parity = true := (Table.sound_iff.mp hsound).1 w
  have hexec : ∀ number, s.servesWrite p tag number data → writeRow p number data = .shadowWrite p →
      ∀ y, s.writeServed p tag number data = y → exec (.shadowWrite p) s = .next (y.1.answered p tag y.2 []) :=
    fun number h hrow y hy => by rw [exec_shadowWrite h hrow, hy]
  have hstored : ∀ number, s.servesWrite p tag number data → writeRow p number data = .shadowWrite p →
      ∀ t, s.writeServed p tag number data = s.storeShadow p (some t) →
        ∃ u, exec (.shadowWrite p) s = .next u ∧ stored t u :=
    fun number h hrow t ht => ⟨_, hexec number h hrow _ (ht.trans (State.storeShadow_holder hn hc hp t)), rfl⟩
  refine ⟨fun h => ?range, fun h => ?routing, fun h => ?route⟩
  case range =>
    have hr := recordOf_shadowRange w
    have hrow : writeRow p range data = .shadowWrite p := by simp only [writeRow, range, hr]
    refine ⟨fun hbig => ?_, fun hflag => ?_⟩
    · refine hexec _ h hrow (s, .invalid) ?_
      simp only [State.writeServed, range, hr, rangeOfBytes_eq_none hbig]
      exact State.storeShadow_invalid hn hc hp
    · obtain ⟨base, limit, hfields, hbase, hlimit⟩ := rangeOfBytes_eq_some hflag
      obtain ⟨u, hu, hs⟩ := hstored _ h hrow (c.shadow.setWindow w (x.withRange _ true)) (by
        simp only [State.writeServed, range, hr, hfields, State.shadowOf_eq hc hp, Option.map_some]
        rw [hparity, State.parityAfterWrite_sound])
      refine ⟨u, base, limit, hu, hbase, hlimit, ?_⟩
      rw [← hparity] at hs
      exact hs
  case routing =>
    have hr := recordOf_shadowRouting_at w
    have hrow : writeRow p routing data = .shadowWrite p := by simp only [writeRow, routing, hr]
    refine ⟨fun hbad => ?_, fun r v k hr0 hv1 h2 h3 h4 h5 => ?_⟩
    · refine hexec _ h hrow (s, .invalid) ?_
      have hnone : routingOfBytes data = none := routingOfBytes_eq_none (by
        rcases hbad with h | h | h | h | h
        · exact .inl (targetOfCode_eq_none (.inl h))
        · exact .inl (targetOfCode_eq_none (.inr h))
        · exact .inr (.inl (targetOfCode_eq_none (.inl h)))
        · exact .inr (.inl (targetOfCode_eq_none (.inr h)))
        · exact .inr (.inr h))
      simp only [State.writeServed, routing, hr, hnone]
      exact State.storeShadow_invalid hn hc hp
    · have hfields := routingOfBytes_eq_some (targetOfCode_eq_some hr0) (targetOfCode_eq_some hv1) h2 h3 h4 h5
      obtain ⟨u, hu, hs⟩ := hstored _ h hrow (c.shadow.setWindow w (x.withRouting _ true)) (by
        simp only [State.writeServed, routing, hr, hfields, State.shadowOf_eq hc hp, Option.map_some]
        rw [hparity, State.parityAfterWrite_sound])
      refine ⟨u, hu, ?_⟩
      rw [← hparity] at hs
      exact hs
  case route =>
    have hr : recordOf 0x0320 = some .shadowDefault := by decide
    have hrow : writeRow p 0x0320 data = .shadowWrite p := by simp only [writeRow, hr]
    intro ceiling
    have hceiling : (be32 data 0).toNat = ceiling := by
      simp only [be32_toNat, be16_toNat, Nat.reduceAdd, ceiling, byte]
      omega
    refine ⟨fun hbad => ?_, fun r hr4 hle => ?_⟩
    · refine hexec _ h hrow (s, .invalid) ?_
      have hnone : defaultOfBytes data = none := defaultOfBytes_eq_none (by
        rcases hbad with h | h | h
        · exact .inr (hceiling ▸ h)
        · exact .inl (targetOfCode_eq_none (.inl h))
        · exact .inl (targetOfCode_eq_none (.inr h)))
      simp only [State.writeServed, hr, hnone]
      exact State.storeShadow_invalid hn hc hp
    · have hfields := defaultOfBytes_eq_some (targetOfCode_eq_some hr4) (hceiling ▸ hle)
      refine hstored _ h hrow _ ?_
      simp only [State.writeServed, hr, hfields, State.shadowOf_eq hc hp, Option.map_some, hceiling]

/-! ## The layouts read -/

theorem targetCode_toNat (t : Option TP) : (targetCode t).toNat = (t.map Fin.val).getD 7 := by
  cases t with
  | none => rfl
  | some t => exact byteOf_toNat (by omega)

theorem bit_toNat (x : Bool) : (byteOf (bit x)).toNat = if x then 1 else 0 := by cases x <;> rfl

theorem portSet_toNat (x : BitVec 4) : (x.setWidth 8).toNat = x.toNat := by
  have := x.isLt
  rw [BitVec.toNat_setWidth]
  omega

/-- R24: the layout of a window range. -/
theorem rangeBytes_read (x : Window) :
    (byteAt (rangeBytes x) 0).toNat = (if x.valid then 1 else 0) ∧
    x.base.toNat = (byteAt (rangeBytes x) 1).toNat * 2 ^ 20 + (byteAt (rangeBytes x) 2).toNat * 2 ^ 12 +
      (byteAt (rangeBytes x) 3).toNat * 2 ^ 4 + (byteAt (rangeBytes x) 4).toNat / 16 ∧
    x.limit.toNat = (byteAt (rangeBytes x) 4).toNat % 16 * 2 ^ 24 + (byteAt (rangeBytes x) 5).toNat * 2 ^ 16 +
      (byteAt (rangeBytes x) 6).toNat * 2 ^ 8 + (byteAt (rangeBytes x) 7).toNat := by
  have hbase := x.base.isLt
  have hlimit := x.limit.isLt
  have hpage : ∀ k, ((x.base ++ x.limit).extractLsb' k 8).toNat =
      (x.base.toNat * 2 ^ 28 + x.limit.toNat) / 2 ^ k % 2 ^ 8 := fun k => by
    rw [BitVec.extractLsb'_toNat, toNat_join, Nat.shiftRight_eq_div_pow]
  refine ⟨bit_toNat x.valid, ?_, ?_⟩
  · simp only [rangeBytes, byteAt_succ, byteAt_zero, hpage]
    omega
  · simp only [rangeBytes, byteAt_succ, byteAt_zero, hpage]
    omega

/-! ## Reads of the tables -/

theorem State.checkedRead_sound {bytes : List Byte} {parity : Bool} (h : parity = true) :
    s.checkedRead p tag parity bytes = (s, .ok, bytes) := if_pos h

theorem State.checkedRead_damaged {bytes : List Byte} {parity : Bool} (h : parity = false) :
    s.checkedRead p tag parity bytes = (s.commandFault p tag, .hubFault, ones 8) := if_neg (by simp [h])

theorem State.readShadow_holder (hc : s.claim = some c) (hp : c.holder = p) (read : Table → Bool × List Byte) :
    s.readShadow p tag read = s.checkedRead p tag (read c.shadow).1 (read c.shadow).2 := by
  rw [State.readShadow, State.claimOf_eq hc hp]

theorem State.readShadow_busy (h : ∀ x, s.claim = some x → x.holder ≠ p) (read : Table → Bool × List Byte) :
    s.readShadow p tag read = (s, .busy, ones 8) := by
  rw [State.readShadow, State.claimOf_eq_none h]

/-- A row that reads a sound item shows it. -/
theorem exec_read_sound {row : Instr} {bytes : List Byte} (hrow : readRow p number = row)
    (hserved : s.readServed p tag number = (s, .ok, bytes)) (h : s.servesRead p tag number) :
    exec row s = .next (s.readAnswered p tag .ok bytes) := by
  rw [← hrow, exec_readRow h, hserved, finishRead_ok]

/-- A row that reads a damaged item answers HUB FAULT behind the STORAGE CHECK. -/
theorem exec_read_damaged {row : Instr} (hrow : readRow p number = row)
    (hserved : s.readServed p tag number = (s.commandFault p tag, .hubFault, ones 8)) (h : s.servesRead p tag number) :
    exec row s = .next ((s.commandFault p tag).readAnswered p tag .hubFault (ones 8)) := by
  rw [← hrow, exec_readRow h, hserved, finishRead_refused _ _ _ .hubFault _ nofun]

section Rows

variable (s p tag) (w : Fin 16)

/-- The rows that read the active table. -/
theorem activeTable_rows :
    (readRow p (BitVec.ofNat 16 (0x0200 + 2 * w.val)) = .activeTableRead p ∧
      s.readServed p tag (BitVec.ofNat 16 (0x0200 + 2 * w.val)) =
        s.checkedRead p tag (look s.active.windows w).parity (rangeBytes (look s.active.windows w))) ∧
    (readRow p (BitVec.ofNat 16 (0x0201 + 2 * w.val)) = .activeTableRead p ∧
      s.readServed p tag (BitVec.ofNat 16 (0x0201 + 2 * w.val)) =
        s.checkedRead p tag (look s.active.windows w).parity (routingBytes s.free (look s.active.windows w))) ∧
    (readRow p 0x0220 = .activeTableRead p ∧
      s.readServed p tag 0x0220 =
        s.checkedRead p tag s.active.route.parity (defaultBytes s.free s.active.route)) := by
  have hroute : recordOf 0x0220 = some .activeDefault := by decide
  simp only [readRow, State.readServed, recordOf_activeRange, recordOf_activeRouting_at, hroute, and_self]

/-- The rows that read the shadow. -/
theorem shadowTable_rows :
    (readRow p (BitVec.ofNat 16 (0x0300 + 2 * w.val)) = .shadowRead p ∧
      s.readServed p tag (BitVec.ofNat 16 (0x0300 + 2 * w.val)) =
        s.readShadow p tag fun t => ((look t.windows w).parity, rangeBytes (look t.windows w))) ∧
    (readRow p (BitVec.ofNat 16 (0x0301 + 2 * w.val)) = .shadowRead p ∧
      s.readServed p tag (BitVec.ofNat 16 (0x0301 + 2 * w.val)) =
        s.readShadow p tag fun t => ((look t.windows w).parity, routingBytes s.free (look t.windows w))) ∧
    (readRow p 0x0320 = .shadowRead p ∧
      s.readServed p tag 0x0320 = s.readShadow p tag fun t => (t.route.parity, defaultBytes s.free t.route)) := by
  have hroute : recordOf 0x0320 = some .shadowDefault := by decide
  simp only [readRow, State.readServed, recordOf_shadowRange, recordOf_shadowRouting_at, hroute, and_self]

end Rows

/-- Settles O30. -/
theorem windowsReadBackAndTheShadowIsTheHolders : Obligations.WindowsReadBackAndTheShadowIsTheHolders := by
  intro s p tag w t x target range routing route reads
  have htarget : ∀ y, target y (targetCode y) := targetCode_toNat
  have hrange : range (rangeBytes x) := rangeBytes_read x
  have hrouting : routing (routingBytes s.free x) :=
    ⟨htarget _, htarget _, portSet_toNat _, portSet_toNat _, bit_toNat _, byteOf_toNat (by omega)⟩
  have hroute : route (defaultBytes s.free t.route) := ⟨be32_bytes32 _ _, htarget _⟩
  have hreads : ∀ (row : Instr) (n : Nat) (holds : List Byte → Prop) (bytes : List Byte) (parity : Bool),
      readRow p (BitVec.ofNat 16 n) = row →
      s.readServed p tag (BitVec.ofNat 16 n) = s.checkedRead p tag parity bytes →
      parity = true → bytes.length = 8 → holds bytes → reads row n holds :=
    fun row n holds bytes parity hrow hserved hparity hlength hholds h =>
      ⟨bytes, hlength, exec_read_sound hrow (hserved.trans (State.checkedRead_sound hparity)) h, hholds⟩
  refine ⟨fun ht => ?active, fun c hc hp ht => ?shadow, fun number hnot hnumber => ⟨fun data hn h => ?write, fun h => ?read⟩⟩
  case active =>
    obtain ⟨⟨hrow0, hserved0⟩, ⟨hrow1, hserved1⟩, hrow2, hserved2⟩ := activeTable_rows s p tag w
    subst ht
    exact ⟨fun hparity => ⟨hreads _ _ _ _ _ hrow0 hserved0 hparity rfl hrange,
      hreads _ _ _ _ _ hrow1 hserved1 hparity rfl hrouting⟩,
      fun hparity => hreads _ _ _ _ _ hrow2 hserved2 hparity rfl hroute⟩
  case shadow =>
    obtain ⟨⟨hrow0, hserved0⟩, ⟨hrow1, hserved1⟩, hrow2, hserved2⟩ := shadowTable_rows s p tag w
    rw [State.readShadow_holder hc hp, ht] at hserved0 hserved1 hserved2
    exact ⟨fun hparity => ⟨hreads _ _ _ _ _ hrow0 hserved0 hparity rfl hrange,
      hreads _ _ _ _ _ hrow1 hserved1 hparity rfl hrouting⟩,
      fun hparity => hreads _ _ _ _ _ hrow2 hserved2 hparity rfl hroute⟩
  case write =>
    obtain ⟨hrow, -⟩ := shadow_rows (p := p) (data := data) hnumber
    have hserved : s.writeServed p tag number data = (s, .busy) := by
      rcases recordOf_shadow hnumber with ⟨w, hr⟩ | ⟨w, hr⟩ | hr <;> simp only [State.writeServed, hr] <;>
        exact State.storeShadow_busy hn hnot _
    rw [exec_shadowWrite h hrow, hserved]
  case read =>
    obtain ⟨-, hrow⟩ := shadow_rows (p := p) (data := []) hnumber
    have hserved : s.readServed p tag number = (s, .busy, ones 8) := by
      rcases recordOf_shadow hnumber with ⟨w, hr⟩ | ⟨w, hr⟩ | hr <;> simp only [State.readServed, hr] <;>
        exact State.readShadow_busy hnot _
    rw [← hrow, exec_readRow h, hserved, finishRead_refused _ _ _ .busy _ nofun]

/-! ## Parity failures found by an offer, a COMMIT or a read -/

/-- Settles O21. -/
theorem damagedTableOrShadowContainsTheHub : Obligations.DamagedTableOrShadowContainsTheHub := by
  intro s p tag data w c r v active shadow
  have hv : s.commandFault p tag = v := by
    simp only [State.commandFault, State.storageCheck, v]
    cases hh : s.hub <;> rfl
  have hread : ∀ (row : Instr) (number : BitVec 16) (bytes : List Byte) (parity : Bool),
      readRow p number = row → s.readServed p tag number = s.checkedRead p tag parity bytes →
      parity = false → s.servesRead p tag number → exec row s = .next (v.readAnswered p tag .hubFault (ones 8)) :=
    fun row number bytes parity hrow hserved hparity h =>
      hv ▸ exec_read_damaged hrow (hserved.trans (State.checkedRead_damaged hparity)) h
  obtain ⟨⟨harow0, haserved0⟩, ⟨harow1, haserved1⟩, harow2, haserved2⟩ := activeTable_rows s p tag w
  obtain ⟨⟨hsrow0, hsserved0⟩, ⟨hsrow1, hsserved1⟩, hsrow2, hsserved2⟩ := shadowTable_rows s p tag w
  refine ⟨fun t => Table.sound_iff, fun hn hdue hdamaged => ⟨?mem, ?posted⟩, fun hn h hc hp hdamaged => ?commit,
    fun k hk h hparity => ?active, fun k hk h hc hp hparity => ?shadow, fun h hparity => ?activeRoute,
    fun h hc hp hparity => ?shadowRoute⟩
  case mem =>
    intro kind a n hhead
    rw [exec_offer_mem hn hdue hhead, State.offerMem_damaged hn hdamaged]
    exact ⟨fun hroom => by rw [if_pos hroom]; rfl, fun hroom => by rw [if_neg hroom]; rfl⟩
  case posted =>
    intro a n hhead
    rw [exec_offer_posted hn hdue hhead, State.offerPosted_damaged hn hdamaged]
    rfl
  case commit =>
    rw [exec_commit h, State.takeCommit_holder hn hc hp, if_pos (by simp [hdamaged]), hv]
  case active =>
    obtain rfl | rfl : k = 0 ∨ k = 1 := by omega
    · exact hread _ _ _ _ harow0 haserved0 hparity h
    · have hnumber : active 1 = BitVec.ofNat 16 (0x0201 + 2 * w.val) := congrArg (BitVec.ofNat 16) (by omega)
      rw [hnumber] at h
      exact hread _ _ _ _ harow1 haserved1 hparity h
  case shadow =>
    rw [State.readShadow_holder hc hp] at hsserved0 hsserved1
    obtain rfl | rfl : k = 0 ∨ k = 1 := by omega
    · exact hread _ _ _ _ hsrow0 hsserved0 hparity h
    · have hnumber : shadow 1 = BitVec.ofNat 16 (0x0301 + 2 * w.val) := congrArg (BitVec.ofNat 16) (by omega)
      rw [hnumber] at h
      exact hread _ _ _ _ hsrow1 hsserved1 hparity h
  case activeRoute => exact hread _ _ _ _ harow2 haserved2 hparity h
  case shadowRoute =>
    rw [State.readShadow_holder hc hp] at hsserved2
    exact hread _ _ _ _ hsrow2 hsserved2 hparity h

end Sys2Proof.Machine
end

section
/-! SUPPORT. The settings writes and INJECT: the operands they take and what they store or report. Settles O32, O33, O34 and
O40. -/

namespace Sys2Proof.Machine

variable {s : State} {p : RP} {tag : Tag} {number : BitVec 16} {data : List Byte} {b : Bank}

/-! ## Settings writes -/

section SettingsRow

variable {α : Type} {operand : Option α} {store : α → State} {row : Instr}

/-- A settings write past its checks stores the operand in range. -/
theorem exec_settings_stored {a : α} (hrow : writeRow p number data = row)
    (hserved : s.writeServed p tag number data = s.settingsWrite p operand store) (hn : s.hub = .normal)
    (hr : (s.rightsOf p).configure = true) (h : s.servesWrite p tag number data) (ha : operand = some a) :
    exec row s = .next ((store a).answered p tag .ok []) := by
  rw [← hrow, exec_writeRow h, hserved, State.settingsWrite_eq hn hr ha]

theorem exec_settings_invalid (hrow : writeRow p number data = row)
    (hserved : s.writeServed p tag number data = s.settingsWrite p operand store) (hn : s.hub = .normal)
    (hr : (s.rightsOf p).configure = true) (h : s.servesWrite p tag number data) (ha : operand = none) :
    exec row s = .next (s.answered p tag .invalid []) := by
  rw [← hrow, exec_writeRow h, hserved, State.settingsWrite_invalid hn hr ha]

end SettingsRow

theorem inRange_of_mem {lo hi n : Nat} (hlo : lo ≤ n) (hhi : n ≤ hi) : inRange lo hi n = some n := if_pos ⟨hlo, hhi⟩

theorem inRange_eq_none {lo hi n : Nat} (h : n < lo ∨ hi < n) : inRange lo hi n = none := if_neg (by omega)

/-- Settles O32: the five settings writes differ in their record, their range and what they store. -/
theorem intervalCapAndLimitWrites : Obligations.IntervalCapAndLimitWrites := by
  intro s p q t k tag data hn hr byte word writes
  have hwrites : ∀ (number : Nat) (row : Instr) (lo hi n : Nat) (store : Nat → State),
      writeRow p (BitVec.ofNat 16 number) data = row →
      s.writeServed p tag (BitVec.ofNat 16 number) data = s.settingsWrite p (inRange lo hi n) store →
      writes number row lo hi n (store n) := fun number row lo hi n store hrow hserved h =>
    ⟨fun hout => exec_settings_invalid hrow hserved hn hr h (inRange_eq_none hout),
      fun hlo hhi => exec_settings_stored hrow hserved hn hr h (inRange_of_mem hlo hhi)⟩
  have hword : (be16 data 0).toNat = word := be16_toNat data 0
  have hlease : recordOf (BitVec.ofNat 16 0x0025) = some .leaseInterval := by decide
  have hreclaim : recordOf (BitVec.ofNat 16 0x0024) = some .reclaimInterval := by decide
  refine ⟨?lease, ?cls, ?reclaim, ?cap, ?limit⟩
  case lease =>
    exact hwrites _ _ _ _ _ (fun n => { s with leaseMs := n }) (by simp only [writeRow, hlease])
      (by simp only [State.writeServed, hlease, hword])
  case cls =>
    exact hwrites _ _ _ _ _ (fun n => { s with classIntervals := upd s.classIntervals k n })
      (by simp only [writeRow, recordOf_classInterval]) (by simp only [State.writeServed, recordOf_classInterval, hword])
  case reclaim =>
    exact hwrites _ _ _ _ _ (fun n => { s with reclaimMs := n }) (by simp only [writeRow, hreclaim])
      (by simp only [State.writeServed, hreclaim]; rfl)
  case cap =>
    exact hwrites _ _ _ _ _ (fun n => s.setPort q { s.port q with cap := n, offerDue := true })
      (by simp only [writeRow, recordOf_port]) (by simp only [State.writeServed, recordOf_port, State.cap_eq]; rfl)
  case limit =>
    exact hwrites _ _ _ _ _ (fun n => s.setTarget t { s.target t with fenceLimit := n })
      (by simp only [writeRow, recordOf_target]) (by simp only [State.writeServed, recordOf_target]; rfl)

/-! ## Masks, floors and routes -/

theorem Kind.one_le_code (k : Kind) : 1 ≤ k.code := by cases k <;> decide

theorem Kind.code_le (k : Kind) : k.code ≤ 22 := by cases k <;> decide

theorem Kind.ofCode_code (k : Kind) : Kind.ofCode k.code = some k := by cases k <;> rfl

theorem Kind.code_of_ofCode {n : Nat} {k : Kind} (h : Kind.ofCode n = some k) : k.code = n := by
  simpa using List.find?_some h

theorem Kind.ofCode_eq_none {n : Nat} (h : n = 0 ∨ 22 < n) : Kind.ofCode n = none := by
  rw [Option.eq_none_iff_forall_ne_some]
  intro k hk
  have hcode := Kind.code_of_ofCode hk
  have hlo := k.one_le_code
  have hhi := k.code_le
  omega

/-- The codes of the kinds of a bank's class (R86). -/
def Bank.lies (b : Bank) (k : Nat) : Prop :=
  match b with
  | .req _ => 1 ≤ k ∧ k ≤ 8
  | .tgt _ => 8 ≤ k ∧ k ≤ 19
  | .hub => 20 ≤ k ∧ k ≤ 22

theorem Bank.holds_iff (k : Kind) : b.holds k = true ↔ Bank.lies b k.code := by
  have hlo := k.one_le_code
  have hhi := k.code_le
  cases b <;> simp [Bank.holds, Bank.lies, hlo, hhi]

/-- R86, R167: a code names a kind of a bank's class exactly where it lies in the class. -/
theorem Bank.holds_ofCode_iff {n : Nat} : ((Kind.ofCode n).any fun k => b.holds k) = true ↔ Bank.lies b n := by
  rw [Option.any_eq_true]
  constructor
  · rintro ⟨k, hk, hholds⟩
    rw [← Kind.code_of_ofCode hk]
    exact (Bank.holds_iff k).mp hholds
  · intro h
    have hrange : 1 ≤ n ∧ n ≤ 22 := by cases b <;> simp only [Bank.lies] at h <;> omega
    have hnames : ∀ m ≤ 22, 1 ≤ m → (Kind.ofCode m).isSome = true := by decide
    obtain ⟨k, hk⟩ := Option.isSome_iff_exists.mp (hnames n hrange.2 hrange.1)
    exact ⟨k, hk, (Bank.holds_iff k).mpr (by rwa [Kind.code_of_ofCode hk])⟩

theorem maskFits_iff {m : BitVec 32} : maskFits b m = true ↔ ∀ k, m.getLsbD k = true → Bank.lies b k := by
  simp only [maskFits, List.all_eq_true, List.mem_range, Bool.or_eq_true, Bool.not_eq_true', Bank.holds_ofCode_iff]
  refine ⟨fun h k hk => ?_, fun h k _ => ?_⟩
  · by_cases hlt : k < 32
    · exact (h k hlt).resolve_left (by simp [hk])
    · rw [BitVec.getLsbD_of_ge m k (by omega)] at hk
      cases hk
  · cases hk : m.getLsbD k with
    | false => exact .inl rfl
    | true => exact .inr (h k hk)

theorem Severity.ofCode_code (x : Severity) : Severity.ofCode x.code = some x := by cases x <;> rfl

theorem Severity.ofCode_eq_none {n : Nat} (h : 2 < n) : Severity.ofCode n = none := by
  unfold Severity.ofCode
  split <;> first | omega | rfl

/-- The code of a floor, 3 for NONE (R99). -/
def floorCode (floor : Option Severity) : Nat := (floor.map Severity.code).getD 3

theorem alertOfBytes_eq_some {floor : Option Severity} (h1 : (byteAt data 1).toNat ≤ 15)
    (h0 : (byteAt data 0).toNat = floorCode floor) :
    alertOfBytes data = some (floor, BitVec.ofNat 4 (byteAt data 1).toNat) := by
  simp only [alertOfBytes, portSetOfByte_eq_some h1, h0, Option.bind_eq_bind, Option.bind_some]
  cases floor with
  | none => rfl
  | some x => cases x <;> rfl

theorem alertOfBytes_eq_none (h : 3 < (byteAt data 0).toNat ∨ 15 < (byteAt data 1).toNat) : alertOfBytes data = none := by
  by_cases h1 : 15 < (byteAt data 1).toNat
  · simp only [alertOfBytes, portSetOfByte_eq_none h1, Option.bind_eq_bind, Option.bind_none]
  · have h0 : 3 < (byteAt data 0).toNat := h.resolve_right h1
    simp only [alertOfBytes, portSetOfByte_eq_some (Nat.not_lt.mp h1), Severity.ofCode_eq_none (show 2 < (byteAt data 0).toNat by omega),
      if_neg (show ¬(byteAt data 0).toNat = 3 by omega), Option.bind_eq_bind, Option.bind_some, Option.bind_none]

/-- The rows that write the settings of a bank. -/
theorem bank_rows (s : State) (p : RP) (tag : Tag) (b : Bank) (data : List Byte) :
    let number (k : Nat) := BitVec.ofNat 16 (0x0100 + 8 * b.idx.val + k)
    (writeRow p (number 4) data = .maskWrite p ∧ s.writeServed p tag (number 4) data =
      s.settingsWrite p (maskOfBytes b data) fun m => s.setBank b { s.bank b with mask := m }) ∧
    (writeRow p (number 5) data = .alertFloorRouteWrite p ∧ s.writeServed p tag (number 5) data =
      s.settingsWrite p (alertOfBytes data) fun x => s.setBank b { s.bank b with floor := x.1, route := x.2 }) ∧
    (writeRow p (number 6) data = .counterSettingsWrite p ∧ s.writeServed p tag (number 6) data =
      s.settingsWrite p (counterOfBytes data) fun x => s.storeCounter b x) := by
  have h4 : recordOf (BitVec.ofNat 16 (0x0100 + 8 * b.idx.val + 4)) = some (.mask b) := recordOf_bank b 4
  have h5 : recordOf (BitVec.ofNat 16 (0x0100 + 8 * b.idx.val + 5)) = some (.alert b) := recordOf_bank b 5
  have h6 : recordOf (BitVec.ofNat 16 (0x0100 + 8 * b.idx.val + 6)) = some (.counter b) := recordOf_bank b 6
  simp only [writeRow, State.writeServed, h4, h5, h6, and_self]

/-- Settles O33. -/
theorem maskFloorAndRouteWrites : Obligations.MaskFloorAndRouteWrites := by
  intro s p b tag data hn hr number byte mask lies
  have hlies : ∀ k, lies k ↔ Bank.lies b k := fun k => by cases b <;> exact Iff.rfl
  obtain ⟨⟨hrow4, hserved4⟩, ⟨hrow5, hserved5⟩, -⟩ := bank_rows s p tag b data
  refine ⟨fun h => ⟨fun hfits => ?_, fun ⟨k, hk, hnot⟩ => ?_⟩, fun h => ⟨fun hbad => ?_, fun h1 floor h0 => ?_⟩⟩
  · have hmask : maskOfBytes b data = some mask := if_pos (maskFits_iff.mpr fun k hk => (hlies k).mp (hfits k hk))
    have hexec := exec_settings_stored hrow4 hserved4 hn hr h hmask
    exact hexec
  · have hmask : maskOfBytes b data = none :=
      if_neg fun hfits => hnot ((hlies k).mpr (maskFits_iff.mp hfits k hk))
    exact exec_settings_invalid hrow4 hserved4 hn hr h hmask
  · exact exec_settings_invalid hrow5 hserved5 hn hr h (alertOfBytes_eq_none hbad)
  · have hcode : (byteAt data 0).toNat = floorCode floor := h0.trans (by
      cases floor with
      | none => rfl
      | some x => cases x <;> rfl)
    have hexec := exec_settings_stored hrow5 hserved5 hn hr h (alertOfBytes_eq_some h1 hcode)
    exact hexec

/-! ## Counters -/

theorem counterOfBytes_of_mem (hlo : 1 ≤ (be16 data 3).toNat) (hhi : (be16 data 3).toNat ≤ 4095) :
    counterOfBytes data = some ((byteAt data 0).getLsbD 0, (be16 data 3).toNat, (byteAt data 5).toNat) := by
  rw [counterOfBytes, inRange_of_mem hlo hhi]
  rfl

theorem counterOfBytes_eq_none (h : (be16 data 3).toNat < 1 ∨ 4095 < (be16 data 3).toNat) : counterOfBytes data = none := by
  rw [counterOfBytes, inRange_eq_none h]
  rfl

/-- R104: the counter that a settings write stores. -/
theorem State.storeCounter_eq (enable : Bool) (threshold leakMs : Nat) :
    s.storeCounter b (enable, threshold, leakMs) =
      let v := s.setBank b { s.bank b with
        counter :=
          { enable, threshold, leakMs
            count := if threshold ≤ (s.bank b).counter.count then threshold else (s.bank b).counter.count
            leakDeadline := leakFrom s.clock leakMs
            tripped := decide (threshold ≤ (s.bank b).counter.count) } }
      if threshold ≤ (s.bank b).counter.count ∧ (s.bank b).counter.tripped = false then v.raise b .trip else v := by
  simp only [State.storeCounter, Counter.write, Bool.and_eq_true, decide_eq_true_eq, Bool.not_eq_true']

/-- Settles O34. -/
theorem counterSettingsWriteComparesAndRestarts : Obligations.CounterSettingsWriteComparesAndRestarts := by
  intro s p b tag data h threshold leakMs c stored
  have hnumber : BitVec.ofNat 16 (0x0106 + 8 * b.idx.val) = BitVec.ofNat 16 (0x0100 + 8 * b.idx.val + 6) :=
    congrArg (BitVec.ofNat 16) (by omega)
  rw [hnumber] at h
  obtain ⟨-, -, hrow, hserved⟩ := bank_rows s p tag b data
  have hthreshold : (be16 data 3).toNat = threshold := be16_toNat data 3
  refine ⟨fun hc => ?contained, fun hn hdeny => ?denied, fun hn hr hout => ?invalid, fun hn hr hlo hhi => ?stored⟩
  case contained =>
    rw [← hrow, exec_writeRow h, hserved, State.settingsWrite, State.whenNormal_contained hc]
  case denied =>
    rw [← hrow, exec_writeRow h, hserved, State.settingsWrite, State.whenNormal_eq hn, State.whenRight_denied hdeny]
  case invalid =>
    exact exec_settings_invalid hrow hserved hn hr h (counterOfBytes_eq_none (by omega))
  case stored =>
    have hexec := exec_settings_stored hrow hserved hn hr h (counterOfBytes_of_mem (by omega) (by omega))
    rw [hthreshold, State.storeCounter_eq] at hexec
    refine ⟨fun hlt => ?_, fun hle htripped => ?_, fun hle hclear => ?_⟩
    · have hnot : ¬threshold ≤ (s.bank b).counter.count := Nat.not_le.mpr hlt
      simp only [hnot, false_and, if_false, decide_false] at hexec
      exact hexec
    · have hyes : threshold ≤ (s.bank b).counter.count := hle
      have ht : (s.bank b).counter.tripped = true := htripped
      simp only [hyes, ht, true_and, Bool.true_eq_false, if_false, if_true, decide_true] at hexec
      exact hexec
    · have hyes : threshold ≤ (s.bank b).counter.count := hle
      have ht : (s.bank b).counter.tripped = false := hclear
      simp only [hyes, ht, and_self, if_true, decide_true] at hexec
      exact hexec

/-! ## INJECT -/

section Operands

variable {x : Byte} {n : Nat}

theorem optionalOperand_eq (n : Nat) (x : Byte) :
    optionalOperand n x = if x.toNat = 255 then some none else (finOf n x.toNat).map some :=
  if_congr BitVec.toNat_inj.symm rfl rfl

/-- R97, R168: FFh is the absence of an operand. -/
theorem optionalOperand_eq_some {o : Option (Fin n)} (hn : n < 256) (h : x.toNat = (o.map Fin.val).getD 255) :
    optionalOperand n x = some o := by
  rw [optionalOperand_eq]
  cases o with
  | none => exact if_pos h
  | some y =>
    have hy : x.toNat = y.val := h
    rw [if_neg (by omega), finOf_eq_some.mpr hy]
    rfl

theorem optionalOperand_eq_none (h : n ≤ x.toNat ∧ x.toNat < 255) : optionalOperand n x = none := by
  rw [optionalOperand_eq, if_neg (by omega), finOf_eq_none.mpr h.1]
  rfl

theorem entryOperand_eq (x : Byte) :
    entryOperand x = if x.toNat = 255 then some none
      else (finOf 128 x.toNat).map fun n => some (⟨n.val % 32, by omega⟩, ⟨n.val / 32, by omega⟩) :=
  if_congr BitVec.toNat_inj.symm rfl rfl

theorem entryOperand_eq_some {o : Option (Fin 32 × Fin 4)}
    (h : x.toNat = (o.map fun e => e.1.val + 32 * e.2.val).getD 255) : entryOperand x = some o := by
  rw [entryOperand_eq]
  cases o with
  | none => exact if_pos h
  | some e =>
    obtain ⟨i, g⟩ := e
    have he : x.toNat = i.val + 32 * g.val := h
    have hi := i.isLt
    have hg := g.isLt
    have hfin : finOf 128 x.toNat = some ⟨i.val + 32 * g.val, by omega⟩ := finOf_eq_some.mpr he
    rw [if_neg (by omega), hfin, Option.map_some]
    refine congrArg (fun y => some (some y)) (Prod.ext (Fin.ext ?_) (Fin.ext ?_))
    · dsimp only
      omega
    · dsimp only
      omega

theorem entryOperand_eq_none (h : 127 < x.toNat ∧ x.toNat < 255) : entryOperand x = none := by
  rw [entryOperand_eq, if_neg (by omega), finOf_eq_none.mpr (by omega)]
  rfl

end Operands

theorem injectionOfBytes_eq_some {kind : Kind} {severity : Severity} {port : Option RP} {g : Option Tag}
    {target : Option TP} {entry : Option (Fin 32 × Fin 4)} (h1 : (byteAt data 1).toNat = b.idx.val)
    (h2 : (byteAt data 2).toNat = kind.code) (hholds : b.holds kind = true) (h3 : (byteAt data 3).toNat = severity.code)
    (h4 : (byteAt data 4).toNat = (port.map Fin.val).getD 255) (h5 : (byteAt data 5).toNat = (g.map Fin.val).getD 255)
    (h6 : (byteAt data 6).toNat = (target.map Fin.val).getD 255)
    (h7 : (byteAt data 7).toNat = (entry.map fun e => e.1.val + 32 * e.2.val).getD 255) :
    injectionOfBytes data = some { bank := b, kind, severity, port, tag := g, target, entry } := by
  simp only [injectionOfBytes, h1, h2, h3, Bank.ofCode_idx, Kind.ofCode_code, Severity.ofCode_code,
    optionalOperand_eq_some (show 4 < 256 by omega) h4, optionalOperand_eq_some (show 64 < 256 by omega) h5,
    optionalOperand_eq_some (show 6 < 256 by omega) h6, entryOperand_eq_some h7, Option.bind_eq_bind, Option.bind_some,
    hholds, if_true]
  rfl

theorem injectionOfBytes_eq_none
    (h : 10 < (byteAt data 1).toNat ∨ (byteAt data 2).toNat = 0 ∨ 22 < (byteAt data 2).toNat ∨ 2 < (byteAt data 3).toNat ∨
      (3 < (byteAt data 4).toNat ∧ (byteAt data 4).toNat < 255) ∨ (63 < (byteAt data 5).toNat ∧ (byteAt data 5).toNat < 255) ∨
      (5 < (byteAt data 6).toNat ∧ (byteAt data 6).toNat < 255) ∨ (127 < (byteAt data 7).toNat ∧ (byteAt data 7).toNat < 255) ∨
      ∃ (b : Bank) (kind : Kind), (byteAt data 1).toNat = b.idx.val ∧ (byteAt data 2).toNat = kind.code ∧ b.holds kind = false) :
    injectionOfBytes data = none := by
  by_contra hne
  obtain ⟨x, hx⟩ := Option.ne_none_iff_exists'.mp hne
  simp only [injectionOfBytes, Option.bind_eq_bind, Option.bind_eq_some_iff] at hx
  obtain ⟨bank, h1, kind, h2, severity, h3, port, h4, g, h5, target, h6, entry, h7, hholds⟩ := hx
  rcases h with h | h | h | h | h | h | h | h | ⟨b, k, hb, hk, hnot⟩
  · exact absurd ((Bank.ofCode_eq_none.mpr h).symm.trans h1) nofun
  · exact absurd ((Kind.ofCode_eq_none (.inl h)).symm.trans h2) nofun
  · exact absurd ((Kind.ofCode_eq_none (.inr h)).symm.trans h2) nofun
  · exact absurd ((Severity.ofCode_eq_none h).symm.trans h3) nofun
  · exact absurd ((optionalOperand_eq_none h).symm.trans h4) nofun
  · exact absurd ((optionalOperand_eq_none h).symm.trans h5) nofun
  · exact absurd ((optionalOperand_eq_none h).symm.trans h6) nofun
  · exact absurd ((entryOperand_eq_none h).symm.trans h7) nofun
  · rw [hb, Bank.ofCode_idx] at h1
    rw [hk, Kind.ofCode_code] at h2
    obtain rfl := Option.some.inj h1
    obtain rfl := Option.some.inj h2
    rw [if_neg (by simp [hnot])] at hholds
    cases hholds

theorem exec_inject (h : s.servesCommand p tag 0x12 data) (hn : s.hub = .normal) (hr : (s.rightsOf p).test = true)
    {x : State × Status}
    (hx : (s.whenValid (injectionOfBytes data) fun y => (s.report y.bank y.report, .ok)) = x) :
    exec (.inject p) s = .next (x.1.answered p tag x.2 []) := by
  rw [← hx, ← State.whenRight_eq (r := s.whenValid _ _) hr, ← State.whenNormal_eq (r := s.whenRight p Rights.test _) hn]
  exact congrArg Host.Outcome.next (State.serveCommand_eq h rfl)

/-- Settles O40. -/
theorem injectReportsAndDoesNothingElse : Obligations.InjectReportsAndDoesNothingElse := by
  intro s p tag data h hn hr byte holds
  have hholds : ∀ b k, b.holds k = true ↔ holds b k := fun b k => by
    rw [Bank.holds_iff]
    cases b <;> exact Iff.rfl
  refine ⟨fun b kind severity port g target entry h1 h2 hk h3 h4 h5 h6 h7 => ?_, fun hbad => ?_⟩
  · refine exec_inject h hn hr (x := (s.report b _, .ok)) ?_
    rw [injectionOfBytes_eq_some h1 h2 ((hholds b kind).mpr hk) h3 h4 h5 h6 h7]
    rfl
  · refine exec_inject h hn hr (x := (s, .invalid)) ?_
    rw [injectionOfBytes_eq_none ?_]
    · rfl
    · simpa only [← Bool.not_eq_true, hholds] using hbad

end Sys2Proof.Machine
end

section
/-! SUPPORT. The status records and the parts of a head as a CONFIG READ shows them. Settles O25 and O41. -/

namespace Sys2Proof.Machine

variable {s : State} {p : RP} {tag : Tag} {number : BitVec 16} {b : Bank}

/-! ## Plain reads -/

/-- A record without a row of its own shows its bytes. -/
theorem exec_plainRead {r : RecordId} {bytes : List Byte} (hr : recordOf number = some r)
    (ha : s.plainRead p r = some (.ok, bytes)) (h : s.servesRead p tag number) :
    exec (.configWrite p) s = .next (s.readAnswered p tag .ok bytes) := by
  rw [exec_configWrite_plain h hr ha, finishRead_ok]

/-- A record whose first bytes alone are listed shows them. -/
theorem exec_plainRead_padded {r : RecordId} {bytes : List Byte} (hr : recordOf number = some r)
    (ha : s.plainRead p r = some (.ok, padded s.free bytes)) (hlength : bytes.length ≤ 8) (h : s.servesRead p tag number) :
    ∃ rest, (bytes ++ rest).length = 8 ∧ exec (.configWrite p) s = .next (s.readAnswered p tag .ok (bytes ++ rest)) :=
  ⟨_, padded_length s.free hlength, exec_plainRead hr ha h⟩

theorem byteOf_bit (x : Bool) : byteOf (bit x) = if x then 1 else 0 := by cases x <;> rfl

/-- A flag shown in a bit above bit 0. -/
theorem mul_bit (n : Nat) (x : Bool) : n * bit x = if x then n else 0 := by cases x <;> simp [bit]

theorem rightsByte_eq (r : Rights) :
    rightsByte r = byteOf ((if r.configure then 1 else 0) + (if r.handle then 2 else 0) + (if r.test then 4 else 0)) := by
  rw [rightsByte, mul_bit, mul_bit]
  rfl

theorem counterBytes_eq (k : Counter) :
    counterBytes k = [byteOf ((if k.enable then 1 else 0) + (if k.tripped then 2 else 0))] ++
      bytes16 (BitVec.ofNat 16 k.count) ++ bytes16 (BitVec.ofNat 16 k.threshold) ++ [byteOf k.leakMs] := by
  rw [counterBytes, mul_bit]
  rfl

/-- R60: the counts of the four ports stand in 6 bits each. -/
theorem heldBytes_toNat {a b c d : Nat} (ha : a < 64) (hb : b < 64) (hc : c < 64) (hd : d < 64) :
    let w := a * 2 ^ 18 + b * 2 ^ 12 + c * 2 ^ 6 + d
    let held := BitVec.ofNat 6 a ++ BitVec.ofNat 6 b ++ BitVec.ofNat 6 c ++ BitVec.ofNat 6 d
    [held.extractLsb' 16 8, held.extractLsb' 8 8, held.extractLsb' 0 8].map BitVec.toNat =
      [w / 65536, w / 256 % 256, w % 256] := by
  intro w held
  have hw : held.toNat = w := by
    simp only [held, w, toNat_join, BitVec.toNat_ofNat]
    omega
  have hbound : w < 2 ^ 24 := by
    simp only [w]
    omega
  simp only [List.map_cons, List.map_nil, BitVec.extractLsb'_toNat, hw, Nat.shiftRight_eq_div_pow]
  congr 1
  · omega
  · rw [Nat.pow_zero, Nat.div_one]

theorem State.heldCount_lt (s : State) (q : RP) : s.heldCount q < 64 := by
  have h : s.heldCount q ≤ s.entries.toList.length := List.countP_le_length
  rw [Vector.length_toList] at h
  omega

/-- Settles O25. -/
theorem statusReadsReturnWhatStands : Obligations.StatusReadsReturnWhatStands := by
  intro s p q t cls b tag reads begins u v count linkState targetState
  have hread : ∀ (number : BitVec 16) (r : RecordId) (bytes : List Byte), recordOf number = some r →
      s.plainRead p r = some (.ok, bytes) → reads number bytes := fun number r bytes hr ha h => exec_plainRead hr ha h
  have hbegin : ∀ (n : Nat) (r : RecordId) (bytes : List Byte), recordOf (BitVec.ofNat 16 n) = some r →
      s.plainRead p r = some (.ok, padded s.free bytes) → bytes.length ≤ 8 → begins n bytes :=
    fun n r bytes hr ha hlength h => exec_plainRead_padded hr ha hlength h
  have hcount : ∀ x, byteOf (s.stateCount x) = count x := fun x => congrArg byteOf (countP_toList _ _)
  have hlink : ∀ x : LinkState, byteOf x.code = linkState x := fun x => by cases x <;> rfl
  have htarget : ∀ x : TargetState, byteOf x.code = targetState x := fun x => by cases x <;> rfl
  refine ⟨countP_toList _ _, hread _ .identity _ (by decide) rfl, hread _ .sequenceStamp _ (by decide) rfl,
    hread _ .hubState _ (by decide) ?hub, fun hc => hread _ .editState _ (by decide) ?free,
    fun c hc => hread _ .editState _ (by decide) ?held, ⟨_, ?_, heldBytes_toNat (s.heldCount_lt 0) (s.heldCount_lt 1)
      (s.heldCount_lt 2) (s.heldCount_lt 3), hread _ .occupancy _ (by decide) ?occupancy⟩, hread _ (.port q) _ (recordOf_port q) ?port,
    hread _ (.target t) _ (recordOf_target t) ?target, hbegin _ (.rights q) _ (recordOf_rights q) ?rights (Nat.le_add_left 1 7),
    hbegin _ (.classInterval cls) _ (recordOf_classInterval cls) rfl (by simp), hbegin _ .reclaimInterval _ (by decide) rfl (by simp),
    hbegin _ .leaseInterval _ (by decide) rfl (by simp), ?bank⟩
  case hub =>
    simp only [State.plainRead, byteOf_bit, decide_eq_true_eq]
    rfl
  case free => simp only [State.plainRead, State.editBytes, State.holder, State.leaseLeft, hc, byteOf_bit]; rfl
  case held => simp only [State.plainRead, State.editBytes, State.holder, State.leaseLeft, hc, byteOf_bit]; rfl
  case occupancy => simp only [State.plainRead, State.occupancyBytes, hcount]; rfl
  case port => simp only [State.plainRead, State.portBytes, hlink]; rfl
  case target => simp only [State.plainRead, State.targetBytes, hlink, htarget]; rfl
  case rights =>
    rw [← rightsByte_eq]
    rfl
  case bank =>
    intro k place number floor
    have hplace : b.idx.val = place := by cases b <;> rfl
    have hnumber : ∀ part : Fin 8, recordOf (BitVec.ofNat 16 (number part.val)) = bankRecord b part.val := fun part => by
      rw [← recordOf_bank b part, hplace]
    have hfloor : byteOf (floorCode (s.bank b).floor) = floor := by
      simp only [floor, k]
      cases (s.bank b).floor with
      | none => rfl
      | some x => cases x <;> rfl
    refine ⟨hplace, fun h => ⟨[], ?_, ?status⟩, hbegin _ (.mask b) _ (hnumber 4) rfl (by simp),
      hbegin _ (.alert b) _ (hnumber 5) ?alert (Nat.le_add_left 2 6), hbegin _ (.counter b) _ (hnumber 6) ?counter (by simp)⟩
    · simp
    case status =>
      refine exec_plainRead (hnumber 3) ?_ h
      rw [State.plainRead, bankStatusBytes, byteOf_bit, List.append_nil, ← hfloor]
      rfl
    case alert =>
      rw [← hfloor]
      rfl
    case counter =>
      rw [← counterBytes_eq]
      rfl
  · rfl

/-! ## The parts of a head -/

theorem orOnes_toNat {α : Type} {f : α → Byte} {g : α → Nat} (h : ∀ a, (f a).toNat = g a) (o : Option α) :
    (orOnes f o).toNat = (o.map g).getD 255 := by
  cases o with
  | none => rfl
  | some a => exact h a

theorem entryByte_toNat (e : Fin 32 × Fin 4) : (entryByte e).toNat = e.1.val + 32 * e.2.val := byteOf_toNat (by omega)

theorem Kind.code_lt (k : Kind) : k.code < 256 := by cases k <;> decide

theorem Severity.code_le (x : Severity) : x.code ≤ 2 := by cases x <;> decide

section HeadBytes

variable (free : Nat → Byte) (r : Rec)

theorem headFirstBytes_none : (byteAt (headFirstBytes free none) 0).getLsbD 0 = false := by
  simp [headFirstBytes]

theorem headFirstBytes_some :
    (byteAt (headFirstBytes free (some r)) 0).toNat = 1 + 2 * r.severity.code + (if r.injected then 8 else 0) ∧
    (byteAt (headFirstBytes free (some r)) 1).toNat = r.kind.code ∧
    be16 (headFirstBytes free (some r)) 2 = r.sequence ∧ be32 (headFirstBytes free (some r)) 4 = r.stamp := by
  have hseverity := r.severity.code_le
  refine ⟨?_, byteOf_toNat r.kind.code_lt, be16_bytes16 r.sequence (bytes32 r.stamp), ?_⟩
  · rw [← mul_bit]
    refine byteOf_toNat ?_
    have : bit r.injected ≤ 1 := by cases r.injected <;> decide
    omega
  · exact (be32_bytes32 r.stamp []) ▸ rfl

/-- Which fields of a record are present (section 10.3). -/
theorem headSecondBytes_presence :
    (byteAt (headSecondBytes free (some r)) 4).toNat =
      (if r.address.isSome then 1 else 0) + (if r.version.isSome then 2 else 0) + (if r.detail.isSome then 4 else 0) := by
  have hbyte : byteAt (headSecondBytes free (some r)) 4 =
      byteOf (bit r.address.isSome + 2 * bit r.version.isSome + 4 * bit r.detail.isSome) := rfl
  rw [hbyte, mul_bit, mul_bit]
  refine byteOf_toNat ?_
  rw [bit]
  split <;> split <;> split <;> decide

theorem headSecondBytes_some :
    (byteAt (headSecondBytes free (some r)) 0).toNat = (r.port.map Fin.val).getD 255 ∧
    (byteAt (headSecondBytes free (some r)) 1).toNat = (r.tag.map Fin.val).getD 255 ∧
    (byteAt (headSecondBytes free (some r)) 2).toNat = (r.target.map Fin.val).getD 255 ∧
    (byteAt (headSecondBytes free (some r)) 3).toNat = (r.entry.map fun e => e.1.val + 32 * e.2.val).getD 255 ∧
    ∀ d, r.detail = some d → byteAt (headSecondBytes free (some r)) 5 = byteOf d.1 ∧
      byteAt (headSecondBytes free (some r)) 6 = byteOf d.2 :=
  ⟨orOnes_toNat (fun x => byteOf_toNat (by omega)) _, orOnes_toNat (fun x => byteOf_toNat (by omega)) _,
    orOnes_toNat (fun x => byteOf_toNat (by omega)) _, orOnes_toNat entryByte_toNat _,
    fun d hd => by simp [headSecondBytes, hd]⟩

theorem headThirdBytes_version {v : BitVec 16} (hv : r.version = some v) : be16 (headThirdBytes free (some r)) 0 = v := by
  simp only [headThirdBytes, hv, Option.map_some, Option.getD_some, List.append_assoc]
  exact be16_bytes16 v _

/-- The bytes of an address behind the three before it. -/
theorem headThirdBytes_address {a : Address} (ha : r.address = some a) : be40 (headThirdBytes free (some r)) 3 = a := by
  have hshift : ∀ (x y z : Byte) (l : List Byte), be40 (x :: y :: z :: l) 3 = be40 l 0 := fun x y z l => by
    simp only [be40, be32, be16, byteAt_succ]
  simp only [headThirdBytes, ha, Option.map_some, Option.getD_some]
  cases r.version with
  | none => exact (hshift _ _ _ _).trans (List.append_nil (bytes40 a) ▸ be40_bytes40 a [])
  | some v => exact (hshift _ _ _ _).trans (List.append_nil (bytes40 a) ▸ be40_bytes40 a [])

theorem headThirdBytes_held (copy : Option Rec) :
    (byteAt (headThirdBytes free copy) 2).toNat = if copy.isSome then 1 else 0 := by
  cases copy with
  | none => rfl
  | some r => cases hv : r.version <;> simp [headThirdBytes, hv, bytes16]

end HeadBytes

/-- R91: a snapshot of another bank or none is stale. -/
theorem State.furtherPart_stale {s : State} {p : RP} {b : Bank} (bytes : Option Rec → List Byte)
    (h : ∀ x, (s.port p).snapshot = some x → x.bank ≠ b) : s.furtherPart p b bytes = (.stale, ones 8) := by
  rw [State.furtherPart]
  split
  · next x hx => rw [if_neg (h x hx)]
  · rfl

theorem State.furtherPart_snapshot {s : State} {p : RP} {b : Bank} {copy : Option Rec} (bytes : Option Rec → List Byte)
    (h : (s.port p).snapshot = some { bank := b, copy := copy }) : s.furtherPart p b bytes = (.ok, bytes copy) := by
  rw [State.furtherPart, h]
  exact if_pos rfl

/-- Settles O41. -/
theorem headPartsShareTheReadersSnapshot : Obligations.HeadPartsShareTheReadersSnapshot := by
  intro s p b tag number byte severityCode kindCode
  have hseverity : ∀ x : Severity, x.code = severityCode x := fun x => by cases x <;> rfl
  have hkind : ∀ k : Kind, k.code = kindCode k := fun k => by cases k <;> rfl
  refine ⟨hseverity, hkind, fun h => ?first, fun part hpart h => ⟨fun hnot => ?stale, fun copy hcopy => ?further⟩⟩
  case first =>
    have hr : recordOf (number 0) = some (.headFirst b) := recordOf_bank b 0
    have hexec := exec_readRow h
    simp only [readRow, State.readServed, hr, finishRead_ok] at hexec
    refine ⟨_, hexec, headFirstBytes_length _ _, fun hnone => ?_, fun r hr => ?_⟩
    · rw [hnone]
      exact headFirstBytes_none _
    · rw [hr, ← hseverity, ← hkind]
      exact headFirstBytes_some _ _
  case stale =>
    have hstale : ∀ (r : RecordId) (bytes : Option Rec → List Byte), recordOf (number part) = some r →
        s.plainRead p r = some (s.furtherPart p b bytes) →
        exec (.configWrite p) s = .next (s.readAnswered p tag .stale (ones 8)) := fun r bytes hr ha => by
      rw [exec_configWrite_plain h hr (ha.trans (congrArg some (State.furtherPart_stale bytes hnot))),
        finishRead_refused _ _ _ .stale _ nofun]
    rcases hpart with rfl | rfl
    · exact hstale (.headSecond b) (headSecondBytes s.free) (recordOf_bank b 1) rfl
    · exact hstale (.headThird b) (headThirdBytes s.free) (recordOf_bank b 2) rfl
  case further =>
    have hshown : ∀ (r : RecordId) (bytes : Option Rec → List Byte), recordOf (number part) = some r →
        s.plainRead p r = some (s.furtherPart p b bytes) →
        exec (.configWrite p) s = .next (s.readAnswered p tag .ok (bytes copy)) := fun r bytes hr ha =>
      exec_plainRead hr (ha.trans (congrArg some (State.furtherPart_snapshot bytes hcopy))) h
    rcases hpart with rfl | rfl
    · refine ⟨_, hshown (.headSecond b) (headSecondBytes s.free) (recordOf_bank b 1) rfl, headSecondBytes_length _ _,
        fun _ => by cases copy <;> rfl, fun hpart => absurd hpart (by decide), fun hnone _ => by rw [hnone]; rfl, fun r hr _ => ?_,
        fun _ _ hpart => absurd hpart (by decide)⟩
      rw [hr]
      obtain ⟨hport, htag, htarget, hentry, hdetail⟩ := headSecondBytes_some s.free r
      exact ⟨hport, htag, htarget, hentry, headSecondBytes_presence s.free r, hdetail⟩
    · refine ⟨_, hshown (.headThird b) (headThirdBytes s.free) (recordOf_bank b 2) rfl, headThirdBytes_length _ _, fun hpart => absurd hpart (by decide),
        fun _ => headThirdBytes_held s.free copy, fun _ hpart => absurd hpart (by decide),
        fun _ _ hpart => absurd hpart (by decide), fun r hr _ => ?_⟩
      rw [hr]
      exact ⟨fun _ hv => headThirdBytes_version s.free r hv, fun _ ha => headThirdBytes_address s.free r ha⟩

end Sys2Proof.Machine
end

section
/-! SUPPORT. The outbound arbiter and its sends, what a delivered packet is to its port unit, and what a link loss does at
a port unit. Settles O44, O48, O51. -/

namespace Sys2Proof.Machine

variable {s : State} {p : RP} {t : TP} {u : RequesterPort}

/-! ## The pending map -/

theorem Reasons.isEmpty_eq_false_iff {r : Reasons} :
    r.isEmpty = false ↔ r.record = true ∨ r.trip = true ∨ r.fence = true ∨ r.reopen = true ∨ r.contain = true := by
  simp only [Reasons.isEmpty, Bool.not_eq_false', Bool.or_eq_true, or_assoc]

/-- R112: the alert that goes first is of the lowest bank with a reason. -/
theorem RequesterPort.lowestAlert_eq_some_iff {i : Fin 11} :
    u.lowestAlert = some i ↔ (look u.alerts i).isEmpty = false ∧ ∀ j, j < i → ¬(look u.alerts j).isEmpty = false := by
  rw [RequesterPort.lowestAlert, ← Fin.find?_eq_find?_finRange, Fin.find?_eq_some_iff]
  simp

theorem RequesterPort.lowestAlert_eq_none_iff : u.lowestAlert = none ↔ ∀ i, ¬(look u.alerts i).isEmpty = false := by
  rw [RequesterPort.lowestAlert, ← Fin.find?_eq_find?_finRange, Fin.find?_eq_none_iff]
  simp

/-! ## The arbiter's choice -/

/-- R146: with no credits due an answer or an alert goes, and of two that wait the kind not sent last. -/
theorem RequesterPort.next_of_not_due (hdue : ¬0 < u.due) :
    u.next =
      if u.responses = [] then if u.lowestAlert = none then none else some .alert
      else some (if u.lastKind = .alert ∨ u.lowestAlert = none then .response else .alert) := by
  rw [RequesterPort.next, if_neg hdue]
  cases u.responses <;> cases u.lowestAlert <;> simp

/-- R146 item 1: credits due go first. -/
theorem RequesterPort.next_eq_credit_iff : u.next = some .credit ↔ 0 < u.due := by
  by_cases hdue : 0 < u.due
  · exact iff_of_true (if_pos hdue) hdue
  · rw [RequesterPort.next_of_not_due hdue]
    refine iff_of_false ?_ hdue
    split_ifs <;> nofun

/-- R146 items 2 and 3 for an answer: an alert that waits too goes first where the last sent was an answer. -/
theorem RequesterPort.next_eq_response_iff :
    u.next = some .response ↔ u.due = 0 ∧ u.responses ≠ [] ∧ (u.lastKind = .alert ∨ u.lowestAlert = none) := by
  by_cases hdue : 0 < u.due
  · rw [RequesterPort.next, if_pos hdue]
    exact iff_of_false nofun fun h => hdue.ne' h.1
  · rw [RequesterPort.next_of_not_due hdue]
    split_ifs <;> simp_all

/-- R146 items 2 and 3 for an alert. -/
theorem RequesterPort.next_eq_alert_iff :
    u.next = some .alert ↔ u.due = 0 ∧ u.lowestAlert ≠ none ∧ (u.lastKind = .response ∨ u.responses = []) := by
  by_cases hdue : 0 < u.due
  · rw [RequesterPort.next, if_pos hdue]
    exact iff_of_false nofun fun h => hdue.ne' h.1
  · have hlast : u.lastKind = .response ↔ u.lastKind ≠ .alert := by cases u.lastKind <;> decide
    rw [RequesterPort.next_of_not_due hdue, hlast]
    have hzero := Nat.eq_zero_of_not_pos hdue
    split_ifs with hresponses hnone hturn
    · simp [hnone]
    · simp [hzero, hnone, hresponses]
    · refine iff_of_false nofun fun ⟨_, hsome, hother⟩ => ?_
      exact hother.elim (fun h => hturn.elim h hsome) hresponses
    · obtain ⟨hkind, hsome⟩ := not_or.mp hturn
      exact iff_of_true rfl ⟨hzero, hsome, .inl hkind⟩

/-! ## The sends -/

theorem exec_creditSend (h : s.outbound p = some .credit) :
    exec (.creditSend p) s = .next ((s.setPort p { s.port p with
      reckoning := (s.port p).reckoning + (s.port p).due, due := 0 }).sendPacket (.rp p) .credit [byteOf (s.port p).due]) := by
  change execCreditSend p s = _
  rw [execCreditSend, h]

theorem exec_creditSend_not (h : s.outbound p ≠ some .credit) : exec (.creditSend p) s = .next s := by
  change execCreditSend p s = _
  rw [execCreditSend]
  split
  · next hout => exact absurd hout h
  · rfl

theorem exec_responseSend {a : Answer} {rest : List Answer} (h : s.outbound p = some .response)
    (hresponses : (s.port p).responses = a :: rest) :
    exec (.responseSend p) s = .next ((s.setPort p { s.port p with
      responses := rest, lastKind := .response, offerDue := true }).sendPacket (.rp p) .response a.payload) := by
  change execResponseSend p s = _
  simp only [execResponseSend, h, hresponses]

theorem exec_responseSend_not (h : s.outbound p ≠ some .response) : exec (.responseSend p) s = .next s := by
  change execResponseSend p s = _
  rw [execResponseSend]
  split
  · next hout => exact absurd hout h
  · rfl

theorem exec_alertSend {i : Fin 11} (h : s.outbound p = some .alert) (hlowest : (s.port p).lowestAlert = some i) :
    exec (.alertSend p) s = .next ((s.setPort p { s.port p with
      alerts := upd (s.port p).alerts i Reasons.empty, lastKind := .alert }).sendPacket (.rp p) .alert
        (alertPayload (Bank.ofIdx i) (look (s.port p).alerts i) (look s.banks i).newest s.stamp)) := by
  change execAlertSend p s = _
  simp only [execAlertSend, h, hlowest]

theorem exec_alertSend_not (h : s.outbound p ≠ some .alert) : exec (.alertSend p) s = .next s := by
  change execAlertSend p s = _
  rw [execAlertSend]
  split
  · next hout => exact absurd hout h
  · rfl

theorem alertPayload_eq (b : Bank) (r : Reasons) (newest : Option Rec) (stamp : BitVec 32) :
    alertPayload b r (newest.map Rec.sequence) stamp =
      [byteOf b.idx.val, byteOf ((if r.record then 1 else 0) + (if r.trip then 2 else 0) + (if r.fence then 4 else 0) +
        (if r.reopen then 8 else 0) + (if r.contain then 16 else 0) + (if newest.isSome then 128 else 0))] ++
        ((newest.map fun x => bytes16 x.sequence).getD [0xFF, 0xFF]) ++ bytes32 stamp := by
  simp only [alertPayload, Reasons.code, mul_bit]
  simp only [bit]
  cases newest <;> rfl

/-- Settles O44. -/
theorem outboundArbiterSendsCreditsAnswersAndAlerts : Obligations.OutboundArbiterSendsCreditsAnswersAndAlerts := by
  intro s p k u canTake pendingAlert statusCode
  have htake : k.canTake = true ↔ canTake := Link.canTake_iff
  have hpending : ∀ i, (look u.alerts i).isEmpty = false ↔ pendingAlert i := fun i => Reasons.isEmpty_eq_false_iff
  have hnone : u.lowestAlert = none ↔ ∀ i, ¬pendingAlert i :=
    RequesterPort.lowestAlert_eq_none_iff.trans (forall_congr' fun i => not_congr (hpending i))
  have hchoice : ∀ x, s.outbound p = some x ↔ canTake ∧ u.next = some x :=
    fun x => State.outbound_eq_some.trans (and_congr_left' htake)
  have hcredit : s.outbound p = some .credit ↔ canTake ∧ 0 < u.due :=
    (hchoice _).trans (and_congr_right' RequesterPort.next_eq_credit_iff)
  have hresponse : s.outbound p = some .response ↔
      canTake ∧ u.due = 0 ∧ u.responses ≠ [] ∧ (u.lastKind = .alert ∨ ∀ i, ¬pendingAlert i) :=
    (hchoice _).trans (and_congr_right' (propext hnone ▸ RequesterPort.next_eq_response_iff))
  have halert : s.outbound p = some .alert ↔
      canTake ∧ u.due = 0 ∧ (¬∀ i, ¬pendingAlert i) ∧ (u.lastKind = .response ∨ u.responses = []) :=
    (hchoice _).trans (and_congr_right' (propext hnone ▸ RequesterPort.next_eq_alert_iff))
  refine ⟨fun hk hdue => exec_creditSend (hcredit.mpr ⟨hk, hdue⟩), ?response, ?alert, ?noCredit, ?noResponse, ?noAlert⟩
  case response =>
    intro a rest hk hdue hresponses hturn
    rw [exec_responseSend (hresponse.mpr ⟨hk, hdue, by simp [hresponses], hturn⟩) hresponses, Answer.payload]
    have hstatus : byteOf a.status.code = statusCode a.status := by cases a.status <;> rfl
    rw [hstatus]
  case alert =>
    intro b hk hdue hb hlow hturn r newest reasons
    have hlowest : u.lowestAlert = some b.idx :=
      RequesterPort.lowestAlert_eq_some_iff.mpr ⟨(hpending _).mpr hb, fun j hj => mt (hpending j).mp (hlow j hj)⟩
    rw [exec_alertSend (halert.mpr ⟨hk, hdue, fun h => h _ hb, hturn⟩) hlowest, bank_ofIdx_idx]
    refine congrArg (fun payload => Host.Outcome.next (State.sendPacket _ _ _ payload)) ((alertPayload_eq b r newest _).trans
      (congrArg (fun data => [byteOf b.idx.val, byteOf reasons] ++ data ++ bytes32 s.stamp) ?_))
    cases newest <;> rfl
  case noCredit =>
    intro h
    refine exec_creditSend_not fun hout => ?_
    obtain ⟨hk, hdue⟩ := hcredit.mp hout
    rcases h with hnot | hzero
    · exact hnot hk
    · exact hdue.ne' hzero
  case noResponse =>
    intro h
    refine exec_responseSend_not fun hout => ?_
    obtain ⟨hk, hdue, hresponses, hturn⟩ := hresponse.mp hout
    rcases h with hnot | hpos | hempty | ⟨hlast, i, hi⟩
    · exact hnot hk
    · exact hpos.ne' hdue
    · exact hresponses hempty
    · rcases hturn with hturn | hturn
      · exact absurd (hlast.symm.trans hturn) nofun
      · exact hturn i hi
  case noAlert =>
    intro h
    refine exec_alertSend_not fun hout => ?_
    obtain ⟨hk, hdue, hsome, hturn⟩ := halert.mp hout
    rcases h with hnot | hpos | hempty | ⟨hlast, hresponses⟩
    · exact hnot hk
    · exact hpos.ne' hdue
    · exact hsome hempty
    · rcases hturn with hturn | hturn
      · exact absurd (hlast.symm.trans hturn) nofun
      · exact hresponses hturn

/-! ## Packets delivered -/

/-- Settles O48. -/
theorem deliveredPacketsReachTheirPortUnit : Obligations.DeliveredPacketsReachTheirPortUnit := by
  intro s payload
  refine ⟨fun p hup => ⟨exec_requestArrival hup (requestOf payload), fun kind hkind => ?foreign⟩,
    fun t hup => ⟨exec_responseIntake_takeResponse hup (rawResponseOf payload), exec_creditReturn hup _,
      fun kind hkind => ?breach⟩⟩
  case foreign =>
    rw [exec_requestArrival hup]
    cases kind with
    | request => exact absurd rfl hkind
    | response => rfl
    | credit => rfl
    | alert => rfl
  case breach =>
    have hdeliver : s.deliver (.tp t) kind payload = if (s.target t).state = .opened then s.breach t else s := by
      rcases hkind with rfl | rfl <;> rfl
    exact ⟨fun hopen => hdeliver.trans (if_pos hopen), fun hclosed => hdeliver.trans (if_neg hclosed)⟩

/-! ## Losses at the port units -/

/-- R148 step 6: what a loss costs. -/
theorem State.lossCosts_iff :
    s.lossCosts p = true ↔ (s.port p).ingress ≠ [] ∨ (s.port p).responses ≠ [] ∨
      ∃ i, (s.entry i).state ≠ .free ∧ (s.entry i).port = p := by
  simp [State.lossCosts, List.any_eq_true, toList_eq_map_look, State.entry, or_assoc]

theorem State.holder_eq_some_iff : s.holder = some p ↔ ∃ c, s.claim = some c ∧ c.holder = p := by
  simp [State.holder]

/-- R148: but for the marks of its entries a loss changes the port's unit alone. -/
theorem State.discardPort_unmarked (s : State) (p : RP) :
    { s.discardPort p with entries := s.entries } = s.setPort p (s.port p).emptied := by
  rw [State.discardPort_eq]
  rfl

/-- Settles O51. -/
theorem portUnitsTakeTheLoss : Obligations.PortUnitsTakeTheLoss := by
  intro s
  refine ⟨fun p => ?requester, fun t => ⟨?opened, ?fenced⟩⟩
  case requester =>
    intro u marked cost emptied severity
    have hcost : s.lossCosts p = true ↔ cost := by
      refine State.lossCosts_iff.trans (or_congr_right (or_congr_right ?_))
      simp [marked]
    refine ⟨s.discardPort p, if s.lossCosts p then .uncorrected else .corrected, ?_, s.discardPort_entry p,
      s.discardPort_unmarked p, fun hfree => ?_, fun c hc hp => ?_⟩
    · by_cases h : s.lossCosts p = true
      · exact .inl ⟨hcost.mp h, if_pos h⟩
      · exact .inr ⟨mt hcost.mpr h, if_neg h⟩
    · have hholder : s.holder ≠ some p := fun h => by
        obtain ⟨c, hc, hp⟩ := State.holder_eq_some_iff.mp h
        exact hfree c hc hp
      simp only [State.takeLoss, State.requesterLoss, if_neg hholder]
    · simp only [State.takeLoss, State.requesterLoss, if_pos (State.holder_eq_some_iff.mpr ⟨c, hc, hp⟩), State.dropClaim]
  case opened =>
    intro hopen
    simp only [State.takeLoss, State.targetLoss, hopen]
    rfl
  case fenced =>
    intro hfenced
    simp only [State.takeLoss, State.targetLoss, hfenced]

end Sys2Proof.Machine
end

section
/-! SUPPORT. What goes out on a link and when, and the training of a link. Settles O46, O45. -/

namespace Sys2Proof.Machine

variable {s : State} {l : LinkId} {k : Link}

/-! ## Handed link frames -/

theorem Handed.isNak_eq_false_iff {h : Handed} : h.isNak = false ↔ h = .ack255 := by
  cases h with
  | ack255 => exact iff_of_true rfl rfl
  | nak n => exact iff_of_false nofun nofun

/-- R157: a handed NAK goes out while the link is UP with a confirmed partner. -/
theorem Link.maySend_nak_iff {n : Byte} : k.maySend (.nak n) = true ↔ k.state = .up ∧ k.confirmed = true := by
  simp [Link.maySend, Handed.isNak]

theorem Link.any_going_isNak_iff :
    (k.handed.filter k.maySend).any Handed.isNak = true ↔
      ∃ n, Handed.nak n ∈ k.handed ∧ k.state = .up ∧ k.confirmed = true := by
  rw [List.any_eq_true]
  constructor
  · rintro ⟨x, hx, hnak⟩
    obtain ⟨hmem, hmay⟩ := List.mem_filter.mp hx
    cases x with
    | ack255 => exact absurd hnak nofun
    | nak n => exact ⟨n, hmem, Link.maySend_nak_iff.mp hmay⟩
  · rintro ⟨n, hmem, hup⟩
    exact ⟨.nak n, List.mem_filter.mpr ⟨hmem, Link.maySend_nak_iff.mpr hup⟩, rfl⟩

/-- R157: with no handed frame to go a flush leaves the link. -/
theorem Link.flush_eq_self (now : Nat) (h : ∀ x ∈ k.handed, k.maySend x = false) : k.flush now = k := by
  have hgoing : k.handed.filter k.maySend = [] := List.filter_eq_nil_iff.mpr fun x hx => by simp [h x hx]
  have hstaying : k.handed.filter (fun x => !k.maySend x) = k.handed :=
    List.filter_eq_self.mpr fun x hx => by simp [h x hx]
  simp [Link.flush, hgoing, hstaying]

theorem Link.emit_nil (now : Nat) : k.emit now [] = k.flush now := by simp [Link.emit]

theorem Link.goDown_eq (k : Link) : k.goDown = { k with
    state := .down, ownAcked := false, replay := [], nak := none, silence := none,
    handed := k.handed.filter (fun h => h = .ack255), ackDue := false } := by
  have hkept : (fun h : Handed => !h.isNak) = fun h => decide (h = .ack255) := funext fun h => by
    cases h <;> rfl
  rw [Link.goDown, hkept]

/-! ## The sends -/

theorem exec_trainSend (hdown : (s.link l).state ≠ .up) (hpending : (s.link l).resetPending = false) :
    exec (.trainSend l) s = .next (s.setLink l ((s.link l).emit s.clock [trainFrame l])) := by
  change execTrainSend l s = _
  simp [execTrainSend, hdown, hpending, State.modLink]

theorem exec_linkResetSend (hpending : (s.link l).resetPending = true) :
    exec (.linkResetSend l) s = .next (s.setLink l { (s.link l).goDown with
      resetPending := false, out := (s.link l).out ++ [resetFrame] }) := congrArg Host.Outcome.next (if_pos hpending)

theorem exec_nakSend {n : Byte} (hpending : (s.link l).resetPending = false) (hmem : Handed.nak n ∈ (s.link l).handed)
    (hmay : (s.link l).maySend (.nak n) = true) :
    exec (.nakSend l) s = .next (s.setLink l ((s.link l).flush s.clock)) := by
  have hany : ((s.link l).handed.any fun h => h.isNak && (s.link l).maySend h) = true :=
    List.any_eq_true.mpr ⟨_, hmem, by rw [hmay]; rfl⟩
  change execNakSend l s = _
  simp [execNakSend, hpending, hany]

theorem any_not_isNak_iff {handed : List Handed} : (handed.any fun h => !h.isNak) = true ↔ Handed.ack255 ∈ handed := by
  simp [List.any_eq_true, Handed.isNak_eq_false_iff]

theorem exec_ackSend_handed (hpending : (s.link l).resetPending = false) (hmem : Handed.ack255 ∈ (s.link l).handed) :
    exec (.ackSend l) s = .next (s.setLink l ((s.link l).flush s.clock)) := by
  change execAckSend l s = _
  simp only [execAckSend, hpending, any_not_isNak_iff.mpr hmem, if_true, Bool.false_eq_true, if_false]

theorem exec_ackSend_due (hpending : (s.link l).resetPending = false) (hmem : Handed.ack255 ∉ (s.link l).handed)
    (hup : (s.link l).state = .up) (hdue : (s.link l).ackDue = true) :
    exec (.ackSend l) s = .next (s.setLink l
      { (s.link l).emit s.clock [ackFrame ((s.link l).expected - 1)] with ackDue := false }) := by
  change execAckSend l s = _
  rw [execAckSend]
  simp only [hpending, Bool.false_eq_true, if_false, if_neg (mt any_not_isNak_iff.mp hmem)]
  rw [if_pos (by simp [hup, hdue])]

/-! ## IDLE -/

theorem Reasons.isEmpty_eq_false_iff_ne {r : Reasons} : r.isEmpty = false ↔ r ≠ Reasons.empty := by
  rw [← Bool.not_eq_true]
  refine not_congr ⟨fun h => ?_, fun h => by rw [h]; rfl⟩
  cases r
  simp_all [Reasons.isEmpty, Reasons.empty]

/-- R146: something waits at a port with credits due, an answer or an alert. -/
theorem RequesterPort.next_isSome_iff {u : RequesterPort} :
    u.next.isSome = true ↔ 0 < u.due ∨ u.responses ≠ [] ∨ ∃ i, look u.alerts i ≠ Reasons.empty := by
  have halert : (∃ i, look u.alerts i ≠ Reasons.empty) ↔ u.lowestAlert ≠ none := by
    rw [Ne, RequesterPort.lowestAlert_eq_none_iff, not_forall_not]
    exact exists_congr fun i => Reasons.isEmpty_eq_false_iff_ne.symm
  rw [halert]
  by_cases hdue : 0 < u.due
  · rw [RequesterPort.next, if_pos hdue]
    exact iff_of_true rfl (.inl hdue)
  · rw [RequesterPort.next_of_not_due hdue]
    split_ifs <;> simp_all

theorem State.packetWaits_rp_iff {p : RP} : s.packetWaits (.rp p) = true ↔
    0 < (s.port p).due ∨ (s.port p).responses ≠ [] ∨ ∃ i, look (s.port p).alerts i ≠ Reasons.empty :=
  RequesterPort.next_isSome_iff

theorem State.packetWaits_tp_iff {t : TP} : s.packetWaits (.tp t) = true ↔
    (s.target t).state = .opened ∧ 0 < (s.target t).credits ∧ (s.target t).egress ≠ [] := by
  simp [State.packetWaits, and_assoc]

/-- R157: an IDLE goes out while UP with nothing else to send. -/
def State.idleDue (s : State) (l : LinkId) : Prop :=
  (s.link l).state = .up ∧ (s.link l).resetPending = false ∧ (∀ h ∈ (s.link l).handed, (s.link l).maySend h = false) ∧
    (s.link l).ackDue = false ∧ ¬((s.link l).canTake && s.packetWaits l) = true

theorem exec_idleSend (h : s.idleDue l) :
    exec (.idleSend l) s = .next (s.setLink l
      { s.link l with out := (s.link l).out ++ [idleFrame (s.link l).nextNumber] }) := by
  obtain ⟨hup, hpending, hhanded, hdue, hwaits⟩ := h
  change execIdleSend l s = _
  rw [execIdleSend]
  dsimp only
  rw [if_pos (by simp [hup, hpending, hdue, hwaits]; exact hhanded), Link.emit, Link.flush_eq_self _ hhanded]

theorem exec_idleSend_not (h : ¬s.idleDue l) : exec (.idleSend l) s = .next s := by
  refine congrArg Host.Outcome.next (if_neg fun hcond => h ?_)
  simp only [Bool.and_eq_true, decide_eq_true_eq, Bool.not_eq_true', List.any_eq_false, Bool.not_eq_true] at hcond
  obtain ⟨⟨⟨⟨hup, hpending⟩, hhanded⟩, hdue⟩, hwaits⟩ := hcond
  exact ⟨hup, hpending, hhanded, hdue, hwaits ▸ Bool.false_ne_true⟩

/-- Settles O46. -/
theorem framesGoOutOnTheLink : Obligations.FramesGoOutOnTheLink := by
  intro s l k goes frame flushed
  have hgoes : goes = k.maySend := funext fun h => by cases h <;> rfl
  have hframe : frame = Handed.frame := funext fun h => by cases h <;> rfl
  have hflushed : ∀ frames, flushed frames = k.emit s.clock frames := fun frames => by
    simp only [flushed, Link.emit, Link.flush, hgoes, hframe, Link.any_going_isNak_iff]
  have hflush : flushed [] = k.flush s.clock := (hflushed []).trans (Link.emit_nil _)
  refine ⟨?packet, fun hdown hpending => ?train, fun hpending => ?reset, fun hpending =>
    ⟨fun n hmem hup hconfirmed => ?nakOut, fun hmem => ?ack, fun hmem hup hdue => ?due⟩, ?idle⟩
  case packet =>
    intro kind payload code f
    rw [hflushed]
    cases kind <;> rfl
  case train =>
    rw [hflushed, exec_trainSend hdown hpending]
    cases l <;> rfl
  case reset => rw [exec_linkResetSend hpending, Link.goDown_eq]; rfl
  case nakOut => rw [hflush, exec_nakSend hpending hmem (Link.maySend_nak_iff.mpr ⟨hup, hconfirmed⟩)]
  case ack => rw [hflush, exec_ackSend_handed hpending hmem]
  case due => rw [hflushed, exec_ackSend_due hpending hmem hup hdue]; rfl
  case idle =>
    intro packet idle
    have hidle : idle ↔ s.idleDue l := by
      have hwaits : ((s.link l).canTake && s.packetWaits l) = true ↔
          k.state = .up ∧ k.resetPending = false ∧ packet := by
        rw [Bool.and_eq_true, Link.canTake_iff]
        cases l with
        | rp p => exact (and_congr_right' State.packetWaits_rp_iff).trans ⟨by tauto, by tauto⟩
        | tp t => exact (and_congr_right' State.packetWaits_tp_iff).trans ⟨by tauto, by tauto⟩
      rw [State.idleDue, hwaits, ← hgoes]
      exact ⟨fun ⟨hup, hpending, hhanded, hdue, hnone⟩ => ⟨hup, hpending, hhanded, hdue, fun h => hnone h.2.2⟩,
        fun ⟨hup, hpending, hhanded, hdue, hnone⟩ => ⟨hup, hpending, hhanded, hdue, fun h => hnone ⟨hup, hpending, h⟩⟩⟩
    exact ⟨fun h => exec_idleSend (hidle.mp h), fun h => exec_idleSend_not (mt hidle.mpr h)⟩

/-! ## Training -/

/-- R154: the advertisement a TRAIN may carry. -/
theorem badTrain_eq_false_iff {a : Byte} : badTrain l a = false ↔ ∀ t, l = .tp t → 1 ≤ a.toNat ∧ a.toNat ≤ 16 := by
  cases l with
  | rp p => exact iff_of_true rfl nofun
  | tp t => simp [badTrain, Nat.one_le_iff_ne_zero]

section StoreAdvertisement

variable (l) (a : Byte)

@[simp] theorem State.storeAdvertisement_clock : (s.storeAdvertisement l a).clock = s.clock := by cases l <;> rfl

end StoreAdvertisement

theorem State.trainTaken_bad {a : Byte} (h : badTrain l a = true) : s.trainTaken l a = s := if_pos h

theorem State.trainTaken_good {a : Byte} (h : badTrain l a = false) :
    s.trainTaken l a =
      let trained := (s.setLink l { (s.link l).hand .ack255 with state := .training }).storeAdvertisement l a
      if (s.link l).ownAcked then trained.linkUp l else trained := if_neg (by rw [h]; exact Bool.false_ne_true)

section Received

variable {a n : Byte}

theorem exec_trainReceived_notUp (h : (s.link l).state ≠ .up) : exec (.trainReceived l a) s = .next (s.trainTaken l a) := by
  change execTrainReceived l a s = _
  rw [execTrainReceived]
  split
  · rfl
  · rfl
  · next hup => exact absurd hup h

theorem exec_trainReceived_confirmed (hup : (s.link l).state = .up) (h : (s.link l).confirmed = true) :
    exec (.trainReceived l a) s = .next ((s.resetByPartner l).trainTaken l a) := by
  change execTrainReceived l a s = _
  simp only [execTrainReceived, hup, if_pos h]

theorem exec_trainReceived_unconfirmed (hup : (s.link l).state = .up) (h : (s.link l).confirmed = false) :
    exec (.trainReceived l a) s = .next (
      if badTrain l a then s.setLink l ((s.link l).heard s.clock)
      else (s.setLink l (((s.link l).heard s.clock).hand .ack255)).storeAdvertisement l a) := by
  change execTrainReceived l a s = _
  simp only [execTrainReceived, hup, h, State.modLink, State.link_setLink_same, State.setLink_setLink, Bool.false_eq_true, if_false]

theorem exec_ack255Received_down (h : (s.link l).state = .down) :
    exec (.ack255Received l) s = .next (s.setLink l { s.link l with ownAcked := true }) := by
  change execAck255Received l s = _
  simp only [execAck255Received, State.takeAck, h, State.modLink, if_true]

theorem exec_ack255Received_training (h : (s.link l).state = .training) :
    exec (.ack255Received l) s = .next ((s.setLink l { s.link l with ownAcked := true }).linkUp l) := by
  change execAck255Received l s = _
  simp only [execAck255Received, State.takeAck, h, State.modLink, if_true]

theorem exec_linkResetReceived_down (h : (s.link l).state = .down) : exec (.linkResetReceived l) s = .next s := by
  change execLinkResetReceived l s = _
  simp only [execLinkResetReceived, h]

theorem exec_linkResetReceived_training (h : (s.link l).state = .training) :
    exec (.linkResetReceived l) s = .next (s.setLink l { s.link l with state := .down, ownAcked := false }) := by
  change execLinkResetReceived l s = _
  simp only [execLinkResetReceived, h, State.modLink]

theorem exec_linkResetReceived_up (h : (s.link l).state = .up) :
    exec (.linkResetReceived l) s = .next (s.resetByPartner l) := by
  change execLinkResetReceived l s = _
  simp only [execLinkResetReceived, h]

section NotUp

/-! R154: a link that is not UP discards frames of data. -/

variable (hdown : (s.link l).state ≠ .up)
include hdown

theorem State.takeAck_notUp (hn : n ≠ 255) : s.takeAck l n = s := by
  rw [State.takeAck]
  split
  · rw [if_neg hn]
  · rw [if_neg hn]
  · next hup => exact absurd hup hdown

theorem State.takeCrcFailure_notUp : s.takeCrcFailure l = s := by
  rw [State.takeCrcFailure]
  split
  · rfl
  · rfl
  · next hup => exact absurd hup hdown

theorem State.takePacketFrame_notUp (kind : PacketKind) (payload : List Byte) : s.takePacketFrame l n kind payload = s := by
  rw [State.takePacketFrame]
  split
  · rfl
  · rfl
  · next hup => exact absurd hup hdown

theorem exec_nakReceived_notUp : exec (.nakReceived l n) s = .next s := by
  change execNakReceived l n s = _
  rw [execNakReceived]
  split
  · rfl
  · rfl
  · next hup => exact absurd hup hdown

theorem exec_idleReceived_notUp : exec (.idleReceived l n) s = .next s := by
  change execIdleReceived l n s = _
  rw [execIdleReceived]
  split
  · rfl
  · rfl
  · next hup => exact absurd hup hdown

theorem exec_packetFrameReceived_notUp (kind : PacketKind) (payload : List Byte) :
    exec (.packetFrameReceived l n kind payload) s = .next s := by
  refine congrArg Host.Outcome.next ?_
  rw [State.takePacketFrame_notUp hdown, State.takeCrcFailure_notUp hdown, ite_self]

end NotUp

end Received

/-- Settles O45. -/
theorem trainingBringsTheLinkUp : Obligations.TrainingBringsTheLinkUp := by
  intro s l a k fits stored up trained
  have hstored : ∀ v : State, stored v = v.storeAdvertisement l a := fun v => by cases l <;> rfl
  have hup : ∀ v : State, v.clock = s.clock → up v = v.linkUp l := fun v hv => by
    simp only [up, State.linkUp, State.modLink, ← hv]
    cases l with
    | rp p => rfl
    | tp t =>
      simp only [State.takeUp, Bool.and_eq_true, decide_eq_true_eq]
      rfl
  have hgood : fits → badTrain l a = false := badTrain_eq_false_iff.mpr
  have hbad : ¬fits → badTrain l a = true := fun h => by simpa using mt badTrain_eq_false_iff.mp h
  have hclock : trained.clock = s.clock := by simp only [trained, hstored]; simp
  have htrained : fits → k.state ≠ .up →
      exec (.trainReceived l a) s = .next (if k.ownAcked then trained.linkUp l else trained) := fun hfits hdown => by
    rw [exec_trainReceived_notUp hdown, State.trainTaken_good (hgood hfits)]
    simp only [trained, hstored, Link.hand]
    rfl
  refine ⟨fun hdown hfits hown => ?_, fun hdown hfits hown => ?_, fun hdown hfits => ?_, fun hstate hfits hconfirmed => ?_,
    fun hstate hfits hconfirmed => ?_, exec_ack255Received_down, fun hstate => ?_, exec_linkResetReceived_down,
    exec_linkResetReceived_training, fun hdown => ⟨?_, fun n kind payload => ⟨fun hn => ?_, exec_nakReceived_notUp hdown,
      exec_idleReceived_notUp hdown, exec_packetFrameReceived_notUp hdown kind payload⟩⟩⟩
  · rw [htrained hfits hdown, hown, if_neg Bool.false_ne_true]
  · rw [htrained hfits hdown, hown, if_pos rfl, hup _ hclock]
  · rw [exec_trainReceived_notUp hdown, State.trainTaken_bad (hbad hfits)]
  · rw [exec_trainReceived_unconfirmed hstate hconfirmed, hgood hfits, if_neg Bool.false_ne_true, hstored]
    rfl
  · rw [exec_trainReceived_unconfirmed hstate hconfirmed, hbad hfits, if_pos rfl]
    rfl
  · rw [exec_ack255Received_training hstate, hup _ (State.setLink_clock _ _ _)]
  · exact congrArg Host.Outcome.next (State.takeCrcFailure_notUp hdown)
  · exact congrArg Host.Outcome.next (State.takeAck_notUp hdown hn)

end Sys2Proof.Machine
end

section
/-! SUPPORT. The frames a link takes while UP, the replays either way, and the losses. Settles O47, O49, O50. -/

namespace Sys2Proof.Machine

variable {s : State} {l : LinkId} {k : Link} {n : Byte}

/-! ## The NAK rule -/

theorem State.nakRule_setLink_none (h : k.nak = none) :
    (s.setLink l k).nakRule l = (s.setLink l { k with
      handed := k.handed ++ [.nak k.expected]
      nak := some { number := k.expected, count := 1, deadline := none } }).reportRetry l := by
  simp only [State.nakRule, State.link_setLink_same, h, State.modLink, State.setLink_setLink, Link.hand]

theorem State.nakRule_setLink_some {x : Nak} (h : k.nak = some x) : (s.setLink l k).nakRule l = s.setLink l k := by
  simp only [State.nakRule, State.link_setLink_same, h]

theorem State.failedReplay_setLink {x : Nak} (h : x.count < 3) :
    (s.setLink l k).failedReplay l x = (s.setLink l { k with
      handed := k.handed ++ [.nak x.number]
      nak := some { x with count := x.count + 1 } }).reportRetry l := by
  simp only [State.failedReplay, if_pos h, State.modLink, State.link_setLink_same, State.setLink_setLink, Link.hand]

theorem State.failedReplay_third {x : Nak} (h : x.count = 3) : s.failedReplay l x = s.loseLink l :=
  if_neg (by omega)

theorem State.reached_some {d : Nat} (h : d ≤ s.clock) : s.reached (some d) = true := by simp [State.reached, h]

/-! ## Losses -/

theorem State.loseLink_setLink : (s.setLink l k).loseLink l = (s.setLink l { k with
    state := .down, ownAcked := false, replay := [], nak := none, silence := none,
    handed := k.handed.filter (fun h => h = .ack255), ackDue := false, resetPending := true }).takeLoss l := by
  rw [State.loseLink, State.modLink, State.link_setLink_same, State.setLink_setLink, Link.goDown_eq]

theorem State.loseLink_eq : s.loseLink l = (s.setLink l { s.link l with
    state := .down, ownAcked := false, replay := [], nak := none, silence := none,
    handed := (s.link l).handed.filter (fun h => h = .ack255), ackDue := false, resetPending := true }).takeLoss l := by
  rw [State.loseLink, State.modLink, Link.goDown_eq]

theorem State.resetByPartner_eq : s.resetByPartner l = (s.setLink l { s.link l with
    state := .down, ownAcked := false, replay := [], nak := none, silence := none,
    handed := (s.link l).handed.filter (fun h => h = .ack255), ackDue := false, resetPending := false }).takeLoss l := by
  rw [State.resetByPartner, State.modLink, Link.goDown_eq]

/-! ## The frames taken while UP -/

theorem wellFramed_iff {kind : PacketKind} {payload : List Byte} :
    wellFramed l kind payload = true ↔ payload.length ≤ 74 ∧
      ((∃ p, l = .rp p) → kind = .request → 8 ≤ payload.length) ∧
      ((∃ t, l = .tp t) → (kind = .response → 4 ≤ payload.length) ∧ (kind = .credit → 1 ≤ payload.length)) := by
  rw [wellFramed, Bool.and_eq_true, decide_eq_true_eq, decide_eq_true_eq, and_comm]
  refine and_congr Iff.rfl ?_
  cases l <;> cases kind <;> simp [fixedPart]

section Up

variable (hup : (s.link l).state = .up)
include hup

theorem exec_crcFailureReceived_none (h : (s.link l).nak = none) :
    exec (.crcFailureReceived l) s = .next ((s.setLink l ((s.link l).heard s.clock)).nakRule l) := by
  refine congrArg Host.Outcome.next ?_
  simp only [State.takeCrcFailure, hup, h, State.modLink]

theorem exec_crcFailureReceived_some {x : Nak} (h : (s.link l).nak = some x) :
    exec (.crcFailureReceived l) s = .next ((s.setLink l ((s.link l).heard s.clock)).failedReplay l x) := by
  refine congrArg Host.Outcome.next ?_
  simp only [State.takeCrcFailure, hup, h, State.modLink]

theorem exec_packetFrameReceived_expected {kind : PacketKind} {payload : List Byte} (hgood : wellFramed l kind payload = true)
    (h : (n - (s.link l).expected).toNat = 0) :
    exec (.packetFrameReceived l n kind payload) s = .next ((s.setLink l { (s.link l).heard s.clock with
      confirmed := true
      expected := (s.link l).expected + 1
      nak := (s.link l).nak.filter fun x => x.number ≠ n
      ackDue := true }).deliver l kind payload) := by
  refine congrArg Host.Outcome.next ((if_pos hgood).trans ?_)
  simp only [State.takePacketFrame, hup, if_pos h, State.modLink, State.link_setLink_same, State.setLink_setLink]
  rfl

theorem exec_packetFrameReceived_gap {kind : PacketKind} {payload : List Byte} (hgood : wellFramed l kind payload = true)
    (h : 1 ≤ (n - (s.link l).expected).toNat) (h' : (n - (s.link l).expected).toNat ≤ 64) :
    exec (.packetFrameReceived l n kind payload) s =
      .next ((s.setLink l { (s.link l).heard s.clock with confirmed := true }).nakRule l) := by
  refine congrArg Host.Outcome.next ((if_pos hgood).trans ?_)
  simp only [State.takePacketFrame, hup, if_neg (Nat.ne_zero_of_lt h), if_pos h', State.modLink]

theorem exec_packetFrameReceived_duplicate {kind : PacketKind} {payload : List Byte}
    (hgood : wellFramed l kind payload = true) (h : 65 ≤ (n - (s.link l).expected).toNat) :
    exec (.packetFrameReceived l n kind payload) s =
      .next (s.setLink l { (s.link l).heard s.clock with confirmed := true }) := by
  refine congrArg Host.Outcome.next ((if_pos hgood).trans ?_)
  simp only [State.takePacketFrame, hup, if_neg (Nat.ne_zero_of_lt h), if_neg (Nat.not_le_of_lt h), State.modLink]

theorem exec_idleReceived_expected (h : n = (s.link l).expected) :
    exec (.idleReceived l n) s = .next (s.setLink l { (s.link l).heard s.clock with confirmed := true }) := by
  change execIdleReceived l n s = _
  simp only [execIdleReceived, hup, if_pos h, State.modLink]

theorem exec_idleReceived_gap (h : n ≠ (s.link l).expected) :
    exec (.idleReceived l n) s =
      .next ((s.setLink l { (s.link l).heard s.clock with confirmed := true }).nakRule l) := by
  change execIdleReceived l n s = _
  simp only [execIdleReceived, hup, if_neg h, State.modLink]

theorem exec_replayTimeout {x : Nak} {d : Nat} (h : (s.link l).nak = some x) (hd : x.deadline = some d) (hle : d ≤ s.clock) :
    exec (.replayTimeout l) s = .next (s.failedReplay l { x with deadline := none }) := by
  change execReplayTimeout l s = _
  simp only [execReplayTimeout, h, hup, hd, State.reached_some hle, decide_true, Bool.and_self, if_true]

theorem exec_silenceDeadline {d : Nat} (hd : (s.link l).silence = some d) (hle : d ≤ s.clock) :
    exec (.silenceDeadline l) s = .next (s.loseLink l) :=
  congrArg Host.Outcome.next (if_pos (by simp [hup, hd, State.reached_some hle]))

end Up

/-- Settles O47. -/
theorem framesTakenAreDeliveredDiscardedOrRefused : Obligations.FramesTakenAreDeliveredDiscardedOrRefused := by
  intro s l number kind payload k heard confirmed ahead retried refused good hup
  have hretried : ∀ v : State, v.reportRetry l = retried v := fun v => by cases l <;> rfl
  have hgood : wellFramed l kind payload = true ↔ good := wellFramed_iff
  have hrefused : ∀ x : Link, x.nak = k.nak → x.expected = k.expected → (s.setLink l x).nakRule l = refused x :=
    fun x hnak hexpected => by
      cases hn : k.nak with
      | none =>
        simp only [refused, hn, if_true, ← hexpected]
        rw [State.nakRule_setLink_none (hnak.trans hn), hretried]
      | some y =>
        simp only [refused, hn, reduceCtorEq, if_false]
        exact State.nakRule_setLink_some (hnak.trans hn)
  refine ⟨fun hg => exec_packetFrameReceived_expected hup (hgood.mpr hg), fun hg h h' => ?_,
    fun hg => exec_packetFrameReceived_duplicate hup (hgood.mpr hg), fun hg => ?_, exec_idleReceived_expected hup,
    fun h => ?_, fun hn => ?_, fun x hx hcount => ?_, fun x d hx hcount hd hle => ?_⟩
  · exact (exec_packetFrameReceived_gap hup (hgood.mpr hg) h h').trans (congrArg _ (hrefused confirmed rfl rfl))
  · exact congrArg Host.Outcome.next (if_neg (mt hgood.mp hg))
  · exact (exec_idleReceived_gap hup h).trans (congrArg _ (hrefused confirmed rfl rfl))
  · exact (exec_crcFailureReceived_none hup hn).trans (congrArg _ (hrefused heard rfl rfl))
  · exact (exec_crcFailureReceived_some hup hx).trans
      (congrArg _ ((State.failedReplay_setLink hcount).trans (hretried _)))
  · have hreplay := State.failedReplay_setLink (s := s) (l := l) (k := s.link l) (x := { x with deadline := none }) hcount
    rw [State.setLink_link] at hreplay
    rw [exec_replayTimeout hup hx hd hle, hreplay, hretried]

/-! ## ACKs and NAKs taken while UP -/

theorem Link.buffers_iff : k.buffers n = true ↔ ∃ g ∈ k.replay, g.number = n := by simp [Link.buffers]

theorem Link.buffers_eq_false (h : ∀ g ∈ k.replay, g.number ≠ n) : k.buffers n = false := by
  simpa [Link.buffers] using h

section Buffered

variable {older newer : List Frame} {f : Frame}
variable (hreplay : k.replay = older ++ [f] ++ newer) (hf : f.number = n) (holder : ∀ g ∈ older, g.number ≠ n)
include hreplay hf

theorem Link.buffers_of_mem : k.buffers n = true :=
  Link.buffers_iff.mpr ⟨f, by simp [hreplay], hf⟩

include holder

theorem Link.fromFrame_eq : k.fromFrame n = [f] ++ newer := by
  rw [Link.fromFrame, hreplay, List.append_assoc, List.dropWhile_append_of_pos (by simpa using holder)]
  exact List.dropWhile_cons_of_neg (by simp [hf])

/-- R160: a replay starts its count anew where an older frame leaves the buffer. -/
theorem Link.countAt_eq : k.countAt n = if older = [] then k.replayCount else 0 := by
  rw [Link.countAt, Link.fromFrame_eq hreplay hf holder, hreplay]
  cases older with
  | nil => simp
  | cons g rest => simp

theorem Link.acked_eq : k.acked n = { k with replay := newer, replayCount := 0 } := by
  rw [Link.acked, if_pos (Link.buffers_of_mem hreplay hf), Link.fromFrame_eq hreplay hf holder]
  rfl

end Buffered

section Up

variable (hup : (s.link l).state = .up)
include hup

theorem exec_ackReceived : exec (.ackReceived l n) s = .next (s.setLink l (((s.link l).heard s.clock).acked n)) := by
  refine congrArg Host.Outcome.next ?_
  simp only [State.takeAck, hup, State.modLink]

theorem exec_nakReceived_replay (h : ((s.link l).heard s.clock).buffers n = true)
    (hcount : ((s.link l).heard s.clock).countAt n < 3) :
    exec (.nakReceived l n) s =
      .next ((s.setLink l (((s.link l).heard s.clock).replayFrom s.clock n)).reportRetry l) := by
  change execNakReceived l n s = _
  simp only [execNakReceived, hup, if_pos h, if_pos hcount]

theorem exec_nakReceived_lost (h : ((s.link l).heard s.clock).buffers n = true)
    (hcount : ¬((s.link l).heard s.clock).countAt n < 3) :
    exec (.nakReceived l n) s = .next ((s.setLink l ((s.link l).heard s.clock)).loseLink l) := by
  change execNakReceived l n s = _
  simp only [execNakReceived, hup, if_pos h, if_neg hcount]

theorem exec_nakReceived_absent (h : ((s.link l).heard s.clock).buffers n = false) :
    exec (.nakReceived l n) s = .next (
      if n = (s.link l).nextNumber then s.setLink l { (s.link l).heard s.clock with replay := [], replayCount := 0 }
      else s.setLink l ((s.link l).heard s.clock)) := by
  change execNakReceived l n s = _
  simp only [execNakReceived, hup, h, Bool.false_eq_true, if_false]
  rfl

end Up

/-- Settles O49. -/
theorem acksFreeFramesAndNaksReplayThem : Obligations.AcksFreeFramesAndNaksReplayThem := by
  intro s l n older f newer k heard count retried hup
  have hretried : ∀ v : State, v.reportRetry l = retried v := fun v => by cases l <;> rfl
  refine ⟨fun hreplay hf holder => ⟨?_, ?replay⟩, fun habsent => ?absent, rfl⟩
  · have hacked : heard.acked n = { heard with replay := newer, replayCount := 0 } := Link.acked_eq hreplay hf holder
    exact (exec_ackReceived hup).trans (congrArg (fun x => Host.Outcome.next (s.setLink l x)) hacked)
  case replay =>
    intro hcount kept
    have hcountAt : heard.countAt n = count := Link.countAt_eq hreplay hf holder
    have hfrom : heard.fromFrame n = [f] ++ newer := Link.fromFrame_eq hreplay hf holder
    have hreplayed : heard.replayFrom s.clock n = if k.resetPending then kept else kept.emit s.clock ([f] ++ newer) := by
      rw [Link.replayFrom, hcountAt, hfrom]
    exact (exec_nakReceived_replay hup (Link.buffers_of_mem hreplay hf) (hcountAt.trans_lt hcount)).trans
      (congrArg _ ((congrArg (fun x => (s.setLink l x).reportRetry l) hreplayed).trans (hretried _)))
  case absent =>
    have hbuffers : heard.buffers n = false := Link.buffers_eq_false habsent
    have hnak := exec_nakReceived_absent hup hbuffers
    have hacked : heard.acked n = heard := if_neg (hbuffers ▸ Bool.false_ne_true)
    exact ⟨(exec_ackReceived hup).trans (congrArg (fun x => Host.Outcome.next (s.setLink l x)) hacked),
      fun hn => hnak.trans (congrArg _ (if_pos hn)), fun hn => hnak.trans (congrArg _ (if_neg hn))⟩

/-! ## Losses of an UP link -/

/-- Settles O50. -/
theorem linkLossesTakeTheLinkDown : Obligations.LinkLossesTakeTheLinkDown := by
  intro s l n k heard lost hup
  have hlost : s.loseLink l = lost k false := State.loseLink_eq
  have hheard : (s.setLink l heard).loseLink l = lost heard false := State.loseLink_setLink
  have hpartner : s.resetByPartner l = lost k true := State.resetByPartner_eq
  refine ⟨fun d hd hle => ?silence, fun x hx hcount => ⟨?crc, fun d hd hle => ?timeout⟩,
    fun f newer hreplay hf hcount => ?nakTaken, ?partner, fun hconfirmed => ?train⟩
  case silence => rw [exec_silenceDeadline hup hd hle, hlost]
  case crc =>
    exact (exec_crcFailureReceived_some hup hx).trans (congrArg _ ((State.failedReplay_third hcount).trans hheard))
  case timeout =>
    have hthird : s.failedReplay l { x with deadline := none } = s.loseLink l := State.failedReplay_third hcount
    rw [exec_replayTimeout hup hx hd hle, hthird, hlost]
  case nakTaken =>
    have hreplay' : heard.replay = [] ++ [f] ++ newer := hreplay
    have hcountAt : heard.countAt n = 3 := (Link.countAt_eq hreplay' hf nofun).trans hcount
    exact (exec_nakReceived_lost hup (Link.buffers_of_mem hreplay' hf) hcountAt.not_lt).trans (congrArg _ hheard)
  case partner => rw [exec_linkResetReceived_up hup, hpartner]
  case train =>
    have hdown : ((s.resetByPartner l).link l).state ≠ .up := by
      rw [State.resetByPartner_link_state]
      nofun
    rw [exec_trainReceived_confirmed hup hconfirmed, ← hpartner, exec_trainReceived_notUp hdown]

end Sys2Proof.Machine
end

section
/-! SUPPORT. The frames of the hub link as bytes. Settles O52. -/

namespace Sys2Proof.Machine

variable {l : LinkId} {f : Frame} {bytes : List Byte}

/-! ## The fields of several bytes -/

theorem bytes16_toNat (x : BitVec 16) : (bytes16 x).map BitVec.toNat = [x.toNat / 2 ^ 8, x.toNat % 2 ^ 8] := by
  have hlt := x.isLt
  simp only [bytes16, List.map_cons, List.map_nil, BitVec.extractLsb'_toNat, Nat.shiftRight_eq_div_pow, List.cons.injEq,
    and_true]
  omega

theorem bytes32_toNat (y : BitVec 32) : (bytes32 y).map BitVec.toNat =
    [y.toNat / 2 ^ 24, y.toNat / 2 ^ 16 % 2 ^ 8, y.toNat / 2 ^ 8 % 2 ^ 8, y.toNat % 2 ^ 8] := by
  have hlt := y.isLt
  simp only [bytes32, List.map_append, bytes16_toNat, BitVec.extractLsb'_toNat, Nat.shiftRight_eq_div_pow, List.cons_append,
    List.nil_append, List.cons.injEq, and_true]
  omega

theorem bytes40_toNat (z : Address) : (bytes40 z).map BitVec.toNat =
    [z.toNat / 2 ^ 32, z.toNat / 2 ^ 24 % 2 ^ 8, z.toNat / 2 ^ 16 % 2 ^ 8, z.toNat / 2 ^ 8 % 2 ^ 8, z.toNat % 2 ^ 8] := by
  have hlt := z.isLt
  simp only [bytes40, List.map_cons, bytes32_toNat, BitVec.extractLsb'_toNat, Nat.shiftRight_eq_div_pow, List.cons.injEq,
    and_true]
  omega

/-! ## A frame and its bytes -/

theorem frameBody_length : (frameBody f).length = 3 + f.payload.length := by
  simp only [frameBody, List.length_append, List.length_cons, List.length_nil]

theorem frameBytes_length : (frameBytes f).length = 7 + f.payload.length := by
  rw [frameBytes, List.length_append, frameBody_length, bytes32_length]
  omega

/-- The bytes of a frame before its CRC. -/
theorem frameBytes_take : (frameBytes f).take ((frameBytes f).length - 4) = frameBody f :=
  List.take_left' (by rw [frameBytes_length, frameBody_length]; omega)

theorem frameBytes_drop : (frameBytes f).drop ((frameBytes f).length - 4) = bytes32 (crc32 (frameBody f)) :=
  List.drop_left' (by rw [frameBytes_length, frameBody_length]; omega)

/-- A frame whose length fits its byte is read back. -/
theorem frameOfBytes_frameBytes (h : f.payload.length ≤ 255) : frameOfBytes (frameBytes f) = some f := by
  have hlength : (byteAt (frameBytes f) 2).toNat = f.payload.length := byteOf_toNat (Nat.lt_succ_of_le h)
  have hsound : 7 ≤ (frameBytes f).length ∧ (frameBytes f).length = 7 + (byteAt (frameBytes f) 2).toNat ∧
      (frameBytes f).drop ((frameBytes f).length - 4) =
        bytes32 (crc32 ((frameBytes f).take ((frameBytes f).length - 4))) := by
    rw [hlength, frameBytes_take, frameBytes_drop, frameBytes_length]
    exact ⟨Nat.le_add_right _ _, rfl, rfl⟩
  rw [frameOfBytes, if_pos hsound, frameBytes_take]
  rfl

/-- What is read as a frame has that frame's bytes. -/
theorem frameBytes_of_frameOfBytes (h : frameOfBytes bytes = some f) : f.payload.length ≤ 255 ∧ frameBytes f = bytes := by
  rw [frameOfBytes] at h
  split at h
  · next hsound =>
    obtain ⟨hseven, hlength, hcrc⟩ := hsound
    obtain rfl := Option.some.inj h
    obtain _ | ⟨b₀, _ | ⟨b₁, _ | ⟨b₂, rest⟩⟩⟩ := bytes
    iterate 3 exact absurd hseven (by simp)
    have hbyte : byteAt (b₀ :: b₁ :: b₂ :: rest) 2 = b₂ := rfl
    have hrest : rest.length = 4 + b₂.toNat := by
      rw [hbyte] at hlength
      simp only [List.length_cons] at hlength
      omega
    have htake : (b₀ :: b₁ :: b₂ :: rest).take ((b₀ :: b₁ :: b₂ :: rest).length - 4) =
        b₀ :: b₁ :: b₂ :: rest.take (rest.length - 4) := by
      have hcut : (b₀ :: b₁ :: b₂ :: rest).length - 4 = rest.length - 4 + 1 + 1 + 1 := by
        simp only [List.length_cons]
        omega
      rw [hcut]
      rfl
    have hpayload : (rest.take (rest.length - 4)).length = b₂.toNat := by
      rw [List.length_take]
      omega
    have hbody : frameBody { number := b₀, kind := b₁, payload := rest.take (rest.length - 4) } =
        (b₀ :: b₁ :: b₂ :: rest).take ((b₀ :: b₁ :: b₂ :: rest).length - 4) := by
      have hcode : byteOf b₂.toNat = b₂ := BitVec.ofNat_toNat 8 b₂
      rw [htake, frameBody]
      simp only [hpayload, hcode]
      rfl
    rw [htake]
    refine ⟨?_, ?_⟩
    · change (rest.take (rest.length - 4)).length ≤ 255
      have := b₂.isLt
      omega
    · change frameBytes { number := b₀, kind := b₁, payload := rest.take (rest.length - 4) } = _
      rw [frameBytes, hbody, ← hcrc, List.take_append_drop]
  · exact absurd h nofun

theorem frameOfBytes_eq_none (h : ∀ f : Frame, f.payload.length ≤ 255 → frameBytes f ≠ bytes) :
    frameOfBytes bytes = none := by
  cases hf : frameOfBytes bytes with
  | none => rfl
  | some f =>
    obtain ⟨hlength, hbytes⟩ := frameBytes_of_frameOfBytes hf
    exact absurd hbytes (h f hlength)

theorem receivedCommand_frameBytes (h : f.payload.length ≤ 255) : receivedCommand l (frameBytes f) = frameCommand l f := by
  rw [receivedCommand, frameOfBytes_frameBytes h]

theorem receivedCommand_none (h : frameOfBytes bytes = none) : receivedCommand l bytes = .crcFailureReceived l := by
  rw [receivedCommand, h]

/-! ## The command of a frame -/

theorem packetOfCode_packetCode (kind : PacketKind) : packetOfCode (packetCode kind) = some kind := by
  cases kind <;> rfl

theorem packetOfCode_eq_none_iff {b : Byte} : packetOfCode b = none ↔ b.toNat = 0 ∨ 4 < b.toNat := by
  revert b
  decide

theorem eq_packetCode_of_packetOfCode {b : Byte} {kind : PacketKind} (h : packetOfCode b = some kind) :
    b = packetCode kind := by
  rw [packetOfCode] at h
  split_ifs at h with h1 h2 h3 h4 <;> cases h <;> assumption

theorem frameCommand_packet {kind : PacketKind} (h : packetOfCode f.kind = some kind) :
    frameCommand l f = if wellFramed l kind f.payload then .packetFrameReceived l f.number kind f.payload
      else .crcFailureReceived l := by
  rw [frameCommand, h]

/-- R153: the frames that are not of a packet, but for TRAIN, carry no payload. -/
theorem frameCommand_link_eq_crc_iff (h : packetOfCode f.kind = none) :
    frameCommand l f = .crcFailureReceived l ↔
      (f.kind = 0x10 ∧ f.payload.length ≠ 1) ∨
        (f.kind ≠ 0x10 ∧ (f.payload ≠ [] ∨ (f.kind ≠ 0x11 ∧ f.kind ≠ 0x12 ∧ f.kind ≠ 0x13 ∧ f.kind ≠ 0x14))) := by
  rw [frameCommand, h]
  dsimp only
  by_cases htrain : f.kind = 0x10
  · rw [if_pos htrain]
    rcases hp : f.payload with _ | ⟨a, _ | ⟨b, rest⟩⟩ <;> simp [htrain]
  · rw [if_neg htrain]
    by_cases hpayload : f.payload ≠ []
    · rw [if_pos hpayload]
      exact iff_of_true rfl (.inr ⟨htrain, .inl hpayload⟩)
    · rw [if_neg hpayload]
      simp only [htrain, hpayload, ne_eq, not_false_eq_true, false_and, false_or, true_and]
      split_ifs <;> simp_all

/-- Settles O52. -/
theorem framesReadBackFromTheirBytes : Obligations.FramesReadBackFromTheirBytes := by
  refine ⟨fun f h => frameOfBytes_frameBytes (h.trans (by decide)), ?packets,
    fun l bytes h => receivedCommand_none (frameOfBytes_eq_none h),
    ?crc, fun x y z => ⟨bytes16_toNat x, bytes32_toNat y, bytes40_toNat z, fun rest =>
      ⟨be16_bytes16 x rest, be32_bytes32 y rest, be40_bytes40 z rest⟩⟩, fun l n => ⟨?_, ?_, ?_, ?_, ?_⟩⟩
  case packets =>
    intro l n kind payload code fixed hfixed hlength
    have hcode : code = packetCode kind := by cases kind <;> rfl
    have hfit : fixed = fixedPart l kind := by cases l <;> cases kind <;> rfl
    have hgood : wellFramed l kind payload = true := by simp [wellFramed, ← hfit, hfixed, hlength]
    rw [receivedCommand_frameBytes (hlength.trans (by decide)), hcode, frameCommand_packet (packetOfCode_packetCode kind),
      if_pos hgood]
  case crc =>
    intro l f hlength kind length short
    rw [receivedCommand_frameBytes hlength]
    cases hk : packetOfCode f.kind with
    | some packet =>
      have hcode : kind = (packetCode packet).toNat := congrArg BitVec.toNat (eq_packetCode_of_packetOfCode hk)
      have hshort : short ↔ length < fixedPart l packet := by
        simp only [short, hcode]
        cases l <;> cases packet <;> simp [fixedPart, packetCode]
      have hgood : ¬wellFramed l packet f.payload = true ↔ 74 < length ∨ short := by
        have hfit : wellFramed l packet f.payload = true ↔ fixedPart l packet ≤ length ∧ length ≤ 74 := by
          rw [wellFramed, Bool.and_eq_true, decide_eq_true_eq, decide_eq_true_eq]
        rw [hfit, hshort]
        omega
      have hknown : 1 ≤ kind ∧ kind ≤ 4 := by
        rw [hcode]
        cases packet <;> decide
      have hcommand : frameCommand l f = .crcFailureReceived l ↔ ¬wellFramed l packet f.payload = true := by
        rw [frameCommand_packet hk]
        split_ifs with h <;> simp [h]
      have hlisted : kind ∈ [1, 2, 3, 4, 0x10, 0x11, 0x12, 0x13, 0x14] := by
        simp only [List.mem_cons, List.not_mem_nil, or_false]
        omega
      have htrain : kind ≠ 0x10 := by omega
      have hlink : ¬0x11 ≤ kind := by omega
      rw [hcommand, hgood]
      simp only [hlisted, htrain, hlink, not_true_eq_false, false_and, false_or, or_false]
    | none =>
      have hsmall := packetOfCode_eq_none_iff.mp hk
      have hkind : ∀ b : Byte, f.kind = b ↔ kind = b.toNat := fun b => BitVec.toNat_inj.symm
      have hempty : f.payload ≠ [] ↔ length ≠ 0 := not_congr List.length_eq_zero_iff.symm
      have hshort : ¬short := by
        cases l <;> simp only [short] <;> omega
      rw [frameCommand_link_eq_crc_iff hk, hempty]
      simp only [Ne, hkind, BitVec.ofNat_eq_ofNat, BitVec.toNat_ofNat, hshort, false_or, List.mem_cons, List.not_mem_nil, or_false]
      omega
  all_goals exact receivedCommand_frameBytes (by simp)

end Sys2Proof.Machine
end
